-- ==== Sys2Proof/Word.lean ====
section
/-! DEFINITION. The word types of the DTB-416: bytes, 32-bit register words and addresses, slot numbers, requester IDs. -/

namespace Sys2Proof

/-- One byte of data, of a payload or of a cell. -/
abbrev Byte := BitVec 8

/-- One register of the register window: bit 31 most significant (11, opening). -/
abbrev Word := BitVec 32

/-- A local address or a target address (R1, R53). -/
abbrev Addr := BitVec 32

/-- A slot number of the rack, 0 to 15. -/
abbrev Slot := BitVec 4

/-- A requester ID, 0 to 3 (R70). -/
abbrev Requester := BitVec 2

end Sys2Proof
end

