-- ==== Sys2Proof/Syntax.lean ====
section
/-! DEFINITION. The commands the part takes, one constructor for each row of spec/opcode_table.json, with the operands each
carries, and the registers of the register window by name. -/

namespace Sys2Proof

/-- The kind of an access at the local port (R70). -/
inductive AccessKind where
  | read
  | write
  | exchange
deriving DecidableEq, Repr

/-- An access as a local master presents it with window select (R70). `data` is the write data, the byte of the lowest
address first, and is ignored with a READ. -/
structure Access where
  requester : Requester
  kind : AccessKind
  address : Addr
  size : Nat
  data : List Byte
deriving DecidableEq, Repr

/-- An access as a local master presents it with register select (R70, R83). `word` is the write data of a 4-byte write as
the register's word, so that no byte order of the local bus is assumed (DESIGN CHOICE, assumption 13; safe). -/
structure RegAccess where
  requester : Requester
  kind : AccessKind
  address : Addr
  size : Nat
  word : Word
deriving DecidableEq, Repr

/-- An access with the select or selects driven for it (R70, R71). An access with neither select is none to the part. -/
inductive Presented where
  | register (a : RegAccess)
  | window (a : Access)
  | both (a : Access)
deriving DecidableEq, Repr

/-- The nine origins of request cells: D0 to D7 and the posted lane P (R86). -/
inductive Origin where
  | dtt (n : Fin 8)
  | posted
deriving DecidableEq, Repr

/-- The eight counters (R181). -/
inductive CounterId where
  | captureRefused
  | postRefused
  | busySeen
  | stray
  | discarded
  | dropped
  | cellErr
  | imqRefused
deriving DecidableEq, Repr

/-- The six words of the staging record (R189). -/
inductive StagingReg where
  | enable
  | localBase
  | sizeCode
  | targetSlot
  | targetBase
  | attributes
deriving DecidableEq, Repr

/-- The words of the compose buffer (R37, R192). -/
inductive ComposeReg where
  | destination
  | length
  | payload (k : Fin 8)
deriving DecidableEq, Repr

/-- The assigned registers of the register window, in the order of the map of 11.1. -/
inductive Reg where
  | identification
  | portWord
  | bridgeCommand
  | bridgeStatus
  | timebase
  | respTimeout
  | discardTime
  | issueCap
  | eventPending
  | eventEnable
  | counter (c : CounterId)
  | staging (f : StagingReg)
  | windowCommand
  | windowStatus
  | dttView (n : Fin 8)
  | captureKind
  | captureLocal
  | captureTarget
  | captureWindow
  | captureOverflow
  | errclr
  | compose (f : ComposeReg)
  | send
  | sendStatus
  | msgRetry
  | imqHeader
  | imqPayload (k : Fin 8)
  | pop
  | imqControl
  | imqStatus
deriving DecidableEq, Repr

/-- The commands, in the order of spec/opcode_table.json. A command that is a register write carries the written word where
the word matters; where "a write of any value" is the command, it carries none. -/
inductive Instr where
  /-- R75: a window-select access. -/
  | windowSelectAccess (a : Access)
  /-- R71: an access with both selects driven. -/
  | bothSelectsAccess (a : Access)
  /-- R74: an access presented while CRST is asserted, with either select or both. -/
  | accessDuringCardReset (p : Presented)
  /-- R83: a register-select access that is not an aligned 4-byte read or write. -/
  | malformedRegisterAccess (a : RegAccess)
  /-- R84: a well-formed register-select access, by its offset. The table has no row for a register READ, and R84 gives
  both directions, so this constructor carries both (DESIGN CHOICE, assumption 4; safe). -/
  | registerWrite (a : RegAccess)
  /-- R161. -/
  | start
  /-- R162. -/
  | drain
  /-- R164. -/
  | purge
  /-- R165. -/
  | stop
  /-- R109. -/
  | go
  /-- R110. -/
  | pause
  /-- R163: a notice reaches the bridge controller. -/
  | enterDrained
  /-- R63, R64: COMMIT with the index field of the window command register (0 to 255). -/
  | commit (n : BitVec 8)
  /-- R65. -/
  | load (n : BitVec 8)
  /-- R66. -/
  | disable (n : BitVec 8)
  /-- R61, R189. -/
  | stagingWrite (f : StagingReg) (w : Word)
  /-- R38: a write of any value to SEND. -/
  | send
  /-- R37. -/
  | composeWrite (f : ComposeReg) (w : Word)
  /-- R40: the word written at 0x230. -/
  | msgRetryWrite (w : Word)
  /-- R154: a write of any value to POP. -/
  | pop
  /-- R147: the word written at 0x328. -/
  | imqControlWrite (w : Word)
  /-- R179: a write of any value to ERRCLR. -/
  | errclr
  /-- R172: the word written at 0x020. -/
  | eventPendingClear (w : Word)
  /-- R174: the word written at 0x024. -/
  | eventEnableWrite (w : Word)
  /-- R182: a write of any value to a counter. -/
  | counterClear (c : CounterId)
  /-- R88, R90: the word written at 0x01C. -/
  | issueCapWrite (w : Word)
  /-- R96: the word written at 0x014. -/
  | respTimeoutWrite (w : Word)
  /-- R18: the word written at 0x018. -/
  | discardTimeWrite (w : Word)
  /-- R123: the word written at 0x010. -/
  | timebaseWrite (w : Word)
  /-- R89, R94: the arbiter's turn to issue. -/
  | issue
  /-- R118: a cell on the rack bus, as the bytes of its frame. -/
  | cellReception (frame : List Byte)
  /-- R97: the response timer of an origin's in-flight record. -/
  | responseTimerExpiry (o : Origin)
  /-- R134: the deferral timer of an origin. -/
  | deferralExpiry (o : Origin)
  /-- R21: the discard timer of entry n. -/
  | discardExpiry (n : Fin 8)
  /-- R106. -/
  | rrstAssert
  /-- R107: with the level of the slot-ID pins at that moment. -/
  | rrstRelease (pins : Slot)
  /-- R4, R32, R54, R74, R148, R159, R175: power-on or CRST asserted. -/
  | cardReset
  /-- R108: with the level of the slot-ID pins at that moment. -/
  | crstRelease (pins : Slot)
  /-- R123, R124: the tick in progress ends. -/
  | timeBaseTick
deriving DecidableEq, Repr

end Sys2Proof
end

