-- ==== Sys2Proof/Decode.lean ====
section
/-! DEFINITION. The commands that a word spells by the bits of spec/opcode_table.json. The part is a block: it takes commands
and fetches no instruction, and no row of the table has bits ("fields" is empty in every one), so no word spells a command
(assumption 23). What words do mean to this part is elsewhere: the register map and the fields of its registers in
Machine/Operands.lean and Machine/RegisterWindow.lean, the layout of cells in Machine/Cells.lean. -/

namespace Sys2Proof

/-- The command that the low nbits bits of w spell, by the table's bits: none, since no row has bits. -/
def decodeTableWord (_nbits _w : Nat) : Option Instr :=
  none

end Sys2Proof
end

