-- ==== Sys2Proof/Config.lean ====
section
/-! DEFINITION. What the DTB-416, part code 0x0D41 revision 2, fixes: the identification word, the depths of its queues,
the ceilings of its counts, and the card-reset values of its settings. The spec leaves no value open to an implementation,
so this file holds no free value. -/

namespace Sys2Proof.Config

/-- The identification word (R186). -/
def identification : Word := 0x0D410002

/-- The most items the PWQ holds (R32). -/
def pwqDepth : Nat := 32

/-- The most messages the IMQ holds (R144). -/
def imqDepth : Nat := 32

/-- Where a counter stops (R181). -/
def counterMax : Nat := 65535

/-- Where the overflow count stops (R178). -/
def overflowMax : Nat := 255

/-- Where an attempts count stops (R9, R42). -/
def attemptsMax : Nat := 15

/-- The longest deferral, in ticks (R131). -/
def deferralCeiling : Nat := 4095

/-- RESP_TIMEOUT counts units of this many ticks (R96). -/
def respTimeoutUnit : Nat := 16

/-- The shortest cell, in bytes (R115). -/
def cellMin : Nat := 6

/-- The longest cell, in bytes (R115). -/
def cellMax : Nat := 38

/-- The largest count a cell may carry (R114). -/
def countMax : Nat := 32

/-- TIMEBASE after card reset (R123). -/
def timebaseReset : BitVec 8 := 25

/-- RESP_TIMEOUT after card reset (R96). -/
def respTimeoutReset : BitVec 8 := 64

/-- DISCARD_TIME after card reset (R18). -/
def discardTimeReset : BitVec 5 := 12

/-- ISSUE_CAP after card reset (R88). -/
def issueCapReset : BitVec 3 := 4

/-- MSG_BUDGET after card reset (R40). -/
def msgBudgetReset : BitVec 4 := 4

/-- MSG_STEP after card reset (R40). -/
def msgStepReset : BitVec 8 := 16

/-- The IMQ quota after card reset (R147). -/
def quotaReset : BitVec 6 := 8

end Sys2Proof.Config
end

