-- ==== Sys2Proof/Machine/State.lean ====
section
/-! DEFINITION. The state of the DTB-416 as plain data, block by block, and the state right after card reset. -/

namespace Sys2Proof.Machine

/-! ## Rack port -/

/-- The rack port's states (R105). -/
inductive PortState where
  | down
  | paused
  | online
deriving DecidableEq, Repr

/-- The rack port: its state and the slot number last sampled (R105, R113). -/
structure RackPort where
  state : PortState
  ownSlot : Slot
deriving DecidableEq, Repr

/-- The two reset lines as levels, true for asserted (R106, R108). -/
structure Lines where
  crst : Bool
  rrst : Bool
deriving DecidableEq, Repr

/-! ## Bridge controller -/

/-- The bridge state (R159). -/
inductive BridgeState where
  | stopped
  | running
  | draining
  | drained
deriving DecidableEq, Repr

/-- The command status (R160). -/
inductive CommandStatus where
  | ok
  | state
  | rackDown
deriving DecidableEq, Repr

/-- The bridge controller (R159, R160). -/
structure Bridge where
  state : BridgeState
  commandStatus : CommandStatus
deriving DecidableEq, Repr

/-! ## Deferred transaction table -/

/-- The kind of a deferred transaction (R1). -/
inductive TxnKind where
  | read
  | cwrite
  | exchange
deriving DecidableEq, Repr

/-- How a deferred transaction ended (R1). `ok` holds the read data, empty for a CWRITE, which has none (R10). -/
inductive TxnResult where
  | ok (readData : List Byte)
  | rejected
  | noAnswer
  | exhausted
  | malformed
  | rackDown
deriving DecidableEq, Repr

/-- The states of an entry that is not FREE, each with the fields that R1 gives it alone. Writes-ahead is 0 in every phase
but `waiting`. An expiry is held as the ticks its timer has left (assumption 7); a COMPLETE entry with no running timer
has none. -/
inductive Phase where
  | waiting (writesAhead : Nat)
  | issued
  | deferred (left : Nat)
  | complete (result : TxnResult) (discard : Option Nat)
deriving DecidableEq, Repr

/-- A DTT entry that is not FREE (R1). `data` is the write data, empty for a READ. `attempts` is 0 to 15. -/
structure Entry where
  requester : Requester
  kind : TxnKind
  address : Addr
  size : Nat
  data : List Byte
  window : Fin 16
  slot : Slot
  targetAddr : Addr
  budget : BitVec 4
  step : BitVec 8
  attempts : Nat
  phase : Phase
deriving DecidableEq, Repr

/-- The deferred transaction table: D0 to D7 (`none` is FREE), the capture order, oldest first (R3), and the DISCARD_TIME
code (R18). -/
structure Dtt where
  entries : Vector (Option Entry) 8
  order : List (Fin 8)
  discardTime : BitVec 5
deriving DecidableEq, Repr

/-! ## Posted write queue -/

/-- What an item carries by its kind (R31): a WRITE its window, requester and addresses; a MESSAGE none of them. -/
inductive ItemKind where
  | write (window : Fin 16) (requester : Requester) (address targetAddr : Addr)
  | message
deriving DecidableEq, Repr

/-- The condition of an item (R33): QUEUED behind the head, or one of the head's three. -/
inductive ItemCond where
  | queued
  | ready
  | inFlight
  | deferred (left : Nat)
deriving DecidableEq, Repr

/-- A PWQ item (R31). -/
structure Item where
  kind : ItemKind
  slot : Slot
  data : List Byte
  budget : BitVec 4
  step : BitVec 8
  attempts : Nat
  cond : ItemCond
deriving DecidableEq, Repr

/-- The posted write queue in acceptance order, the head first (R32). -/
structure Pwq where
  items : List Item
deriving DecidableEq, Repr

/-- The send status (R38). -/
inductive SendStatus where
  | idle
  | queued
  | state
  | rackDown
  | self
  | badLength
  | full
deriving DecidableEq, Repr

/-- The compose buffer, the send status and the message retry settings (R37, R38, R40). -/
structure Compose where
  destination : Slot
  length : BitVec 8
  payload : Vector Word 8
  sendStatus : SendStatus
  msgBudget : BitVec 4
  msgStep : BitVec 8
deriving DecidableEq, Repr

/-! ## Window table -/

/-- What a WRITE through a window becomes (R53). -/
inductive WriteMode where
  | posted
  | confirmed
  | readOnly
deriving DecidableEq, Repr

/-- A window entry, and the staging record, which has the same fields (R53, R61). -/
structure Window where
  enable : Bool
  localBase : Addr
  sizeCode : BitVec 5
  slot : Slot
  targetBase : Addr
  mode : WriteMode
  exchange : Bool
  budget : BitVec 4
  step : BitVec 8
deriving DecidableEq, Repr

/-- Every field zero, write mode POSTED (R54). -/
def Window.zero : Window :=
  { enable := false, localBase := 0, sizeCode := 0, slot := 0, targetBase := 0, mode := .posted, exchange := false,
    budget := 0, step := 0 }

/-- The window status (R62). -/
inductive WindowStatus where
  | ok
  | badSize
  | badAlign
  | badIndex
deriving DecidableEq, Repr

/-- The window table W0 to W15, the staging record and the window status (R53, R61, R62). -/
structure WindowTable where
  entries : Vector Window 16
  staging : Window
  status : WindowStatus
deriving DecidableEq, Repr

/-! ## Issue arbiter -/

/-- The kind of a request cell (R114). -/
inductive CellKind where
  | read
  | write
  | exchange
  | message
deriving DecidableEq, Repr

/-- An in-flight record (R94); its response deadline is held as the ticks its timer has left (assumption 7). -/
structure InFlight where
  origin : Origin
  gen : BitVec 4
  kind : CellKind
  size : Nat
  left : Nat
deriving DecidableEq, Repr

/-- The issue arbiter: the ready list, oldest first (R87), the in-flight set (R94), the generation counters of D0 to D7
and P (R92), ISSUE_CAP (R88) and RESP_TIMEOUT (R96). -/
structure Arbiter where
  ready : List Origin
  inFlight : List InFlight
  generations : Vector (BitVec 4) 9
  issueCap : BitVec 3
  respTimeout : BitVec 8
deriving DecidableEq, Repr

/-! ## Inbound message queue -/

/-- A stored message (R143); its length is that of its payload. -/
structure Message where
  sender : Slot
  payload : List Byte
  sequence : BitVec 8
deriving DecidableEq, Repr

/-- The IMQ status (R154). -/
inductive ImqStatus where
  | ok
  | empty
deriving DecidableEq, Repr

/-- The inbound message queue, the head first (R144 to R147, R154). `counts` is indexed by sender slot. -/
structure Imq where
  messages : List Message
  sequence : BitVec 8
  counts : Vector Nat 16
  enable : Bool
  quota : BitVec 6
  status : ImqStatus
deriving DecidableEq, Repr

/-! ## Event unit -/

/-- The eleven events (R170). -/
inductive Event where
  | msg
  | imqRefused
  | discard
  | lostResult
  | drop
  | stray
  | full
  | rackDown
  | rackUp
  | drained
  | error
deriving DecidableEq, Repr

/-- The kinds of a captured error (R176). -/
inductive ErrorKind where
  | misaligned
  | notStarted
  | rackDown
  | noWindow
  | permission
  | selfTarget
  | dataMismatch
  | rejected
  | noAnswer
  | exhausted
  | malformed
  | lostResult
deriving DecidableEq, Repr

/-- The source of a captured error (R176). -/
inductive ErrorSource where
  | localAccess
  | dttEntry (n : Fin 8)
  | postedWrite
  | message
deriving DecidableEq, Repr

/-- An error as it is handed to the error capture; an absent field is `none` (R176, R177). -/
structure ErrorInfo where
  kind : ErrorKind
  source : ErrorSource
  requester : Option Requester
  address : Option Addr
  window : Option (Fin 16)
  slot : Option Slot
  targetAddr : Option Addr
deriving DecidableEq, Repr

/-- A held error with its overflow count (R176). -/
structure Held where
  error : ErrorInfo
  overflow : Nat
deriving DecidableEq, Repr

/-- The eight counters, 0 to 65535 each (R181). -/
structure Counters where
  captureRefused : Nat
  postRefused : Nat
  busySeen : Nat
  stray : Nat
  discarded : Nat
  dropped : Nat
  cellErr : Nat
  imqRefused : Nat
deriving DecidableEq, Repr

/-- The event unit. `edges` holds the pending state of the ten edge events at the bits of R188; bit 0 is MSG's place, which
follows the IMQ and is not stored here (R155). `capture` is `none` when the record is empty. -/
structure EventUnit where
  edges : BitVec 11
  enable : BitVec 11
  capture : Option Held
  counters : Counters
deriving DecidableEq, Repr

/-! ## Time base -/

/-- The time base (R123): TIMEBASE, the length of the tick in progress, and the reference-clock periods counted since the
count was last started afresh, up to the last end of a tick (assumption 12). -/
structure TimeBase where
  timebase : BitVec 8
  tickLength : BitVec 8
  refPeriods : Nat
deriving DecidableEq, Repr

/-! ## Answers -/

/-- What a DONE carries (R72): nothing, the read data of a window-select access, or the word of a register read. -/
inductive Carried where
  | nothing
  | bytes (data : List Byte)
  | word (w : Word)
deriving DecidableEq, Repr

/-- The three answers of the local port (R72). -/
inductive Answer where
  | done (c : Carried)
  | retry
  | fault
deriving DecidableEq, Repr

/-! ## The whole part -/

/-- The state of the part, block by block. `answer` and `sent` are the outputs of the last command: what the local port
answered, and the frame the rack port put on the rack bus (DESIGN CHOICE, assumption 9; safe). `pending` is the queue of
commands, first in first out. -/
structure State where
  lines : Lines
  rack : RackPort
  bridge : Bridge
  dtt : Dtt
  pwq : Pwq
  compose : Compose
  windows : WindowTable
  arbiter : Arbiter
  imq : Imq
  events : EventUnit
  time : TimeBase
  answer : Option Answer
  sent : Option (List Byte)
  pending : List Instr
deriving DecidableEq, Repr

/-- The part never stops: a FAULT of the local port is an answer, and errors are records of the error capture (R72, R178).
So there is no fault, and the type has no constructor (assumption 20). -/
inductive Fault where
deriving DecidableEq, Repr

/-- Why a command is refused. -/
inductive Refusal where
  /-- Raised by an arm of `exec` whose command has no meaning yet; no arm raises it. Safe: the model stops where the
  hardware goes on. -/
  | notModelled (mnemonic : String)
deriving DecidableEq, Repr

/-- What a step of this machine answers. -/
abbrev StepOutcome := Host.Outcome State Fault Refusal

/-! ## Card reset -/

/-- Every counter 0 (R182). -/
def Counters.zero : Counters :=
  { captureRefused := 0, postRefused := 0, busySeen := 0, stray := 0, discarded := 0, dropped := 0, cellErr := 0,
    imqRefused := 0 }

/-- The machine right after card reset, CRST released again, with RRST still asserted: the port is DOWN and the own slot 0
(R108, R186). Of the two states the spec gives after card reset, this is the one that needs no sample of the slot-ID pins
(DESIGN CHOICE, assumption 1; unsafe). Every other value is the chapters' card-reset value: R4, R18, R32, R37, R38, R40,
R54, R87, R88, R92, R94, R96, R123, R148, R159, R160, R175, R179, R182. -/
def State.reset : State :=
  { lines := { crst := false, rrst := true }
    rack := { state := .down, ownSlot := 0 }
    bridge := { state := .stopped, commandStatus := .ok }
    dtt := { entries := Vector.replicate 8 none, order := [], discardTime := Config.discardTimeReset }
    pwq := { items := [] }
    compose :=
      { destination := 0, length := 0, payload := Vector.replicate 8 0, sendStatus := .idle,
        msgBudget := Config.msgBudgetReset, msgStep := Config.msgStepReset }
    windows := { entries := Vector.replicate 16 Window.zero, staging := Window.zero, status := .ok }
    arbiter :=
      { ready := [], inFlight := [], generations := Vector.replicate 9 0, issueCap := Config.issueCapReset,
        respTimeout := Config.respTimeoutReset }
    imq :=
      { messages := [], sequence := 0, counts := Vector.replicate 16 0, enable := false, quota := Config.quotaReset,
        status := .ok }
    events := { edges := 0, enable := 0, capture := none, counters := Counters.zero }
    time := { timebase := Config.timebaseReset, tickLength := Config.timebaseReset, refPeriods := 0 }
    answer := none
    sent := none
    pending := [] }

end Sys2Proof.Machine
end

