-- ==== Sys2Proof/Machine/Operands.lean ====
section
/-! DEFINITION. Operands: well-formed accesses, bytes and words, the register map, the fields of the setting registers and
the values they take, windows and their ranges, and the times of the timers. -/

namespace Sys2Proof

/-! ## Accesses -/

/-- A window-select access is well formed: size 1, 2, 4 or 8, an address that is a multiple of the size, and size 4 for an
EXCHANGE (R76). -/
def Access.wellFormed (a : Access) : Bool :=
  (a.size == 1 || a.size == 2 || a.size == 4 || a.size == 8) && a.address.toNat % a.size == 0 &&
    (a.kind != .exchange || a.size == 4)

/-- A WRITE or an EXCHANGE carries write data of as many bytes as the size (R70); a term that does not is no access. -/
def Access.dataFits (a : Access) : Bool :=
  a.kind == .read || a.data.length == a.size

/-- The write data an access hands on: as many bytes as the size, none for a READ (R1, R70). -/
def Access.writeData (a : Access) : List Byte :=
  match a.kind with
  | .read => []
  | _ => a.data.take a.size

/-- A register-select access is well formed: READ or WRITE, size 4, offset a multiple of 4 (R83). -/
def RegAccess.wellFormed (a : RegAccess) : Bool :=
  a.kind != .exchange && a.size == 4 && a.address.toNat % 4 == 0

/-- The 12-bit offset into the register window: the low 12 bits of the address (R70). -/
def RegAccess.offset (a : RegAccess) : BitVec 12 :=
  a.address.extractLsb' 0 12

/-! ## Origins -/

/-- The number of an origin in a tag: D0 to D7 are 0 to 7 and P is 8 (R86). -/
def Origin.index : Origin → Fin 9
  | .dtt n => n.castSucc
  | .posted => 8

/-- An origin's number as the four bits of a tag (R115). -/
def Origin.number (o : Origin) : BitVec 4 :=
  BitVec.ofNat 4 o.index.val

/-! ## The register map (11.1) -/

/-- The eight indices of DTT entries, payload words and the like. -/
def eight : List (Fin 8) := [0, 1, 2, 3, 4, 5, 6, 7]

/-- The offset of a counter (11.1). -/
def CounterId.offset : CounterId → Nat
  | .captureRefused => 0x040
  | .postRefused => 0x044
  | .busySeen => 0x048
  | .stray => 0x04C
  | .discarded => 0x050
  | .dropped => 0x054
  | .cellErr => 0x058
  | .imqRefused => 0x05C

/-- The offset of a staging word (R189). -/
def StagingReg.offset : StagingReg → Nat
  | .enable => 0x080
  | .localBase => 0x084
  | .sizeCode => 0x088
  | .targetSlot => 0x08C
  | .targetBase => 0x090
  | .attributes => 0x094

/-- The offset of a compose word (R192). -/
def ComposeReg.offset : ComposeReg → Nat
  | .destination => 0x200
  | .length => 0x204
  | .payload k => 0x208 + 4 * k.val

/-- The offset of a register (11.1). -/
def Reg.offset : Reg → Nat
  | .identification => 0x000
  | .portWord => 0x004
  | .bridgeCommand => 0x008
  | .bridgeStatus => 0x00C
  | .timebase => 0x010
  | .respTimeout => 0x014
  | .discardTime => 0x018
  | .issueCap => 0x01C
  | .eventPending => 0x020
  | .eventEnable => 0x024
  | .counter c => c.offset
  | .staging f => f.offset
  | .windowCommand => 0x098
  | .windowStatus => 0x09C
  | .dttView n => 0x100 + 4 * n.val
  | .captureKind => 0x180
  | .captureLocal => 0x184
  | .captureTarget => 0x188
  | .captureWindow => 0x18C
  | .captureOverflow => 0x190
  | .errclr => 0x194
  | .compose f => f.offset
  | .send => 0x228
  | .sendStatus => 0x22C
  | .msgRetry => 0x230
  | .imqHeader => 0x300
  | .imqPayload k => 0x304 + 4 * k.val
  | .pop => 0x324
  | .imqControl => 0x328
  | .imqStatus => 0x32C

/-- Every counter. -/
def CounterId.all : List CounterId :=
  [.captureRefused, .postRefused, .busySeen, .stray, .discarded, .dropped, .cellErr, .imqRefused]

/-- Every staging word. -/
def StagingReg.all : List StagingReg :=
  [.enable, .localBase, .sizeCode, .targetSlot, .targetBase, .attributes]

/-- Every assigned register, in the order of the map (11.1). -/
def Reg.all : List Reg :=
  [.identification, .portWord, .bridgeCommand, .bridgeStatus, .timebase, .respTimeout, .discardTime, .issueCap,
    .eventPending, .eventEnable] ++ CounterId.all.map .counter ++ StagingReg.all.map .staging ++
  [.windowCommand, .windowStatus] ++ eight.map .dttView ++
  [.captureKind, .captureLocal, .captureTarget, .captureWindow, .captureOverflow, .errclr,
    .compose .destination, .compose .length] ++ eight.map (fun k => .compose (.payload k)) ++
  [.send, .sendStatus, .msgRetry, .imqHeader] ++ eight.map .imqPayload ++ [.pop, .imqControl, .imqStatus]

/-- The register at an offset, if one is assigned (R84, 11.1). -/
def Reg.ofOffset (off : BitVec 12) : Option Reg :=
  Reg.all.find? fun r => r.offset == off.toNat

/-- The five access classes (R184). -/
inductive AccessClass where
  | setting
  | readOnly
  | command
  | writeOneToClear
  | counter
deriving DecidableEq, Repr

/-- The access class of a register (11.1, R184). -/
def Reg.accessClass : Reg → AccessClass
  | .identification | .portWord | .bridgeStatus | .windowStatus | .dttView _ => .readOnly
  | .captureKind | .captureLocal | .captureTarget | .captureWindow | .captureOverflow => .readOnly
  | .sendStatus | .imqHeader | .imqPayload _ | .imqStatus => .readOnly
  | .bridgeCommand | .windowCommand | .errclr | .send | .pop => .command
  | .eventPending => .writeOneToClear
  | .counter _ => .counter
  | .timebase | .respTimeout | .discardTime | .issueCap | .eventEnable => .setting
  | .staging _ | .compose _ | .msgRetry | .imqControl => .setting

end Sys2Proof

namespace Sys2Proof.Machine

/-! ## Bytes and words -/

/-- The four bytes of a payload word, the earliest in the most significant position (R194). -/
def bytesOfWord (w : Word) : List Byte :=
  [w.extractLsb' 24 8, w.extractLsb' 16 8, w.extractLsb' 8 8, w.extractLsb' 0 8]

/-- The word of four payload bytes, the earliest in the most significant position (R194). -/
def wordOfBytes (b0 b1 b2 b3 : Byte) : Word :=
  b0 ++ b1 ++ b2 ++ b3

/-- Payload word k of a payload; 0 where the word lies wholly beyond its length (R153, R194). -/
def payloadWord (payload : List Byte) (k : Nat) : Word :=
  if payload.length ≤ 4 * k then 0
  else wordOfBytes (payload.getD (4 * k) 0) (payload.getD (4 * k + 1) 0) (payload.getD (4 * k + 2) 0)
    (payload.getD (4 * k + 3) 0)

/-- A register word made of fields: each pair is a field's lowest bit and its number. -/
def fields (fs : List (Nat × Nat)) : Word :=
  BitVec.ofNat 32 (fs.foldl (fun acc f => acc + f.2 * 2 ^ f.1) 0)

/-- The number of a flag. -/
def bitOf (b : Bool) : Nat :=
  if b then 1 else 0

/-! ## The value a setting takes (R185) -/

/-- TIMEBASE, RESP_TIMEOUT and MSG_STEP: 0 is taken as 1 (R40, R96, R123). -/
def takeNonzero (b : BitVec 8) : BitVec 8 :=
  if b = 0 then 1 else b

/-- DISCARD_TIME: 1 to 5 are taken as 6 and 17 and above as 16 (R18). -/
def takeDiscardTime (c : BitVec 5) : BitVec 5 :=
  if c = 0 then 0 else if c.toNat < 6 then 6 else if 16 < c.toNat then 16 else c

/-- ISSUE_CAP: 0 is taken as 1 and above 4 as 4 (R88). -/
def takeIssueCap (c : BitVec 3) : BitVec 3 :=
  if c = 0 then 1 else if 4 < c.toNat then 4 else c

/-- The IMQ quota: 0 is taken as 1 and above 32 as 32 (R147). -/
def takeQuota (q : BitVec 6) : BitVec 6 :=
  if q = 0 then 1 else if 32 < q.toNat then 32 else q

/-- The write mode a code names; 3 is taken as READ-ONLY (R61, R189). -/
def takeWriteMode (c : BitVec 2) : WriteMode :=
  if c = 0 then .posted else if c = 1 then .confirmed else .readOnly

/-- The code of a write mode (R189). -/
def WriteMode.code : WriteMode → Nat
  | .posted => 0
  | .confirmed => 1
  | .readOnly => 2

/-! ## Windows -/

/-- An address matches an entry: enabled, and within its range (R55). -/
def Window.contains (w : Window) (addr : Addr) : Bool :=
  w.enable && decide (w.localBase.toNat ≤ addr.toNat) &&
    decide (addr.toNat < w.localBase.toNat + 2 ^ w.sizeCode.toNat)

/-- The target address of an address in a window's range (R57). -/
def Window.translate (w : Window) (addr : Addr) : Addr :=
  w.targetBase + (addr - w.localBase)

/-- The sixteen window indices, lowest first. -/
def windowIndices : List (Fin 16) :=
  [0, 1, 2, 3, 4, 5, 6, 7, 8, 9, 10, 11, 12, 13, 14, 15]

/-- The lowest-numbered enabled window whose range contains the address (R56). -/
def WindowTable.lookup (t : WindowTable) (addr : Addr) : Option (Fin 16 × Window) :=
  (windowIndices.find? fun n => (t.entries.get n).contains addr).map fun n => (n, t.entries.get n)

/-- A base is a multiple of the window's size (R53). -/
def alignedTo (base : Addr) (sizeCode : BitVec 5) : Bool :=
  base.toNat % 2 ^ sizeCode.toNat == 0

/-- The judgement of COMMIT on a staging record, in the order of R63. -/
def Window.judge (w : Window) : WindowStatus :=
  if w.sizeCode.toNat < 12 || 30 < w.sizeCode.toNat then .badSize
  else if w.step = 0 then .badSize
  else if !alignedTo w.localBase w.sizeCode then .badAlign
  else if !alignedTo w.targetBase w.sizeCode then .badAlign
  else .ok

/-- A write to a staging word sets its fields unchecked (R61, R189). -/
def Window.stage (w : Window) (f : StagingReg) (v : Word) : Window :=
  match f with
  | .enable => { w with enable := v.getLsbD 0 }
  | .localBase => { w with localBase := v }
  | .sizeCode => { w with sizeCode := v.extractLsb' 0 5 }
  | .targetSlot => { w with slot := v.extractLsb' 0 4 }
  | .targetBase => { w with targetBase := v }
  | .attributes =>
    { w with
      mode := takeWriteMode (v.extractLsb' 0 2)
      exchange := v.getLsbD 4
      budget := v.extractLsb' 8 4
      step := v.extractLsb' 16 8 }

/-- What a read of a staging word shows (R61, R189). -/
def Window.view (w : Window) : StagingReg → Word
  | .enable => fields [(0, bitOf w.enable)]
  | .localBase => w.localBase
  | .sizeCode => fields [(0, w.sizeCode.toNat)]
  | .targetSlot => fields [(0, w.slot.toNat)]
  | .targetBase => w.targetBase
  | .attributes => fields [(0, w.mode.code), (4, bitOf w.exchange), (8, w.budget.toNat), (16, w.step.toNat)]

/-! ## Times, in ticks -/

/-- The ticks of the discard timer a completion starts; none under code 0 (R18, R19). -/
def discardTicks (code : BitVec 5) : Option Nat :=
  if code = 0 then none else some (2 ^ code.toNat)

/-- The deferral time after the nth attempt (R131). -/
def deferralTicks (step : BitVec 8) (attempts : Nat) : Nat :=
  min (step.toNat * attempts) Config.deferralCeiling

/-- The response timeout (R96). -/
def respTicks (respTimeout : BitVec 8) : Nat :=
  respTimeout.toNat * Config.respTimeoutUnit

/-- An issue counts one attempt more, and stays at 15 (R9, R42, R128). -/
def nextAttempts (attempts : Nat) : Nat :=
  min (attempts + 1) Config.attemptsMax

/-- The deferral unit allows another attempt: no limit, or fewer attempts than the budget (R130). -/
def mayRetry (budget : BitVec 4) (attempts : Nat) : Bool :=
  budget = 0 || decide (attempts < budget.toNat)

end Sys2Proof.Machine
end

