-- ==== Sys2Proof/Machine/Cells.lean ====
section
/-! DEFINITION. Cells of the rack bus: the check code, the request and response cells the part builds, and how a received
frame is checked and read (06, 6.3 and 6.4). -/

namespace Sys2Proof.Machine

/-! ## The check code (R116) -/

/-- The check register after one bit: shifted left, with x^12 + x^5 + 1 added where a bit leaves at the top. -/
def crcBit (r : BitVec 16) : BitVec 16 :=
  if r.msb then (r <<< 1) ^^^ 0x1021 else r <<< 1

/-- The check register after one byte, most significant bit first. -/
def crcByte (r : BitVec 16) (b : Byte) : BitVec 16 :=
  Nat.iterate crcBit 8 (r ^^^ (b.setWidth 16 <<< 8))

/-- The check code of a list of bytes: the register starts at 0xFFFF and there is no final inversion (R116). -/
def checkCode (bs : List Byte) : BitVec 16 :=
  bs.foldl crcByte 0xFFFF

/-- A cell with its check code added, most significant byte first (R116). -/
def withCheckCode (bs : List Byte) : List Byte :=
  bs ++ [(checkCode bs).extractLsb' 8 8, (checkCode bs).extractLsb' 0 8]

/-! ## Cells the part sends (R114, R115) -/

/-- The code of a request's kind (R115). -/
def CellKind.code : CellKind → BitVec 3
  | .read => 0
  | .write => 1
  | .exchange => 2
  | .message => 3

/-- The answers the part gives as a target (R117). -/
inductive TargetAnswer where
  | accept
  | busy
  | reject
deriving DecidableEq, Repr

/-- The code of an answer (R115). -/
def TargetAnswer.code : TargetAnswer → BitVec 3
  | .accept => 0
  | .busy => 1
  | .reject => 2

/-- What a request cell carries besides its slots and its tag (R95). A MESSAGE has no address. -/
structure Request where
  kind : CellKind
  dest : Slot
  address : Addr
  count : Nat
  payload : List Byte
deriving DecidableEq, Repr

/-- The first four bytes of a cell (R115). -/
def header (type : BitVec 2) (code : BitVec 3) (source dest : Slot) (origin gen : BitVec 4) (count : Nat) : List Byte :=
  [type ++ code ++ (0 : BitVec 3), source ++ dest, origin ++ gen, BitVec.ofNat 8 count]

/-- A request cell as it stands on the rack bus (R95, R115). -/
def requestFrame (own : Slot) (o : Origin) (gen : BitVec 4) (r : Request) : List Byte :=
  withCheckCode
    (header 1 r.kind.code own r.dest o.number gen r.count ++
      (if r.kind = .message then [] else bytesOfWord r.address) ++ r.payload)

/-- A response cell of this part: count 0, no payload, the request's tag echoed (R117). -/
def responseFrame (own dest : Slot) (origin gen : BitVec 4) (a : TargetAnswer) : List Byte :=
  withCheckCode (header 2 a.code own dest origin gen 0)

/-! ## Frames the part receives (R115, R118) -/

/-- Byte i of a frame. -/
def frameByte (f : List Byte) (i : Nat) : Byte :=
  f.getD i 0

/-- The type bits: 1 for REQUEST, 2 for RESPONSE. -/
def frameType (f : List Byte) : BitVec 2 :=
  (frameByte f 0).extractLsb' 6 2

/-- The kind or answer code. -/
def frameCode (f : List Byte) : BitVec 3 :=
  (frameByte f 0).extractLsb' 3 3

/-- The source slot. -/
def frameSource (f : List Byte) : Slot :=
  (frameByte f 1).extractLsb' 4 4

/-- The destination slot. -/
def frameDest (f : List Byte) : Slot :=
  (frameByte f 1).extractLsb' 0 4

/-- The tag's origin. -/
def frameOrigin (f : List Byte) : BitVec 4 :=
  (frameByte f 2).extractLsb' 4 4

/-- The tag's generation. -/
def frameGen (f : List Byte) : BitVec 4 :=
  (frameByte f 2).extractLsb' 0 4

/-- The count. -/
def frameCount (f : List Byte) : Nat :=
  (frameByte f 3).toNat

/-- A request of kind READ, WRITE or EXCHANGE has an 8-byte header; every other cell has a 4-byte one (R115). -/
def frameHeader (f : List Byte) : Nat :=
  if frameType f = 1 ∧ (frameCode f).toNat ≤ 2 then 8 else 4

/-- The payload bytes: as many as the count, and none in a READ request (R114). -/
def framePayloadLength (f : List Byte) : Nat :=
  if frameType f = 1 ∧ frameCode f = CellKind.read.code then 0 else frameCount f

/-- The payload of a frame. -/
def framePayload (f : List Byte) : List Byte :=
  (f.drop (frameHeader f)).take (framePayloadLength f)

/-- The address of a READ, WRITE or EXCHANGE request, most significant byte first (R115). -/
def frameAddress (f : List Byte) : Addr :=
  wordOfBytes (frameByte f 4) (frameByte f 5) (frameByte f 6) (frameByte f 7)

/-- The length that a frame's type, kind and count give it (R115). -/
def frameLength (f : List Byte) : Nat :=
  frameHeader f + framePayloadLength f + 2

/-- A received cell is damaged (R118): its length, its check code, its type bits, its count, or its length against its
header. -/
def damaged (f : List Byte) : Bool :=
  decide (f.length < Config.cellMin) || decide (Config.cellMax < f.length) ||
    decide (checkCode (f.take (f.length - 2)) ≠ frameByte f (f.length - 2) ++ frameByte f (f.length - 1)) ||
    decide (frameType f = 0) || decide (frameType f = 3) ||
    decide (Config.countMax < frameCount f) || decide (f.length ≠ frameLength f)

end Sys2Proof.Machine
end

