-- ==== Sys2Proof/Machine/Flags.lean ====
section
/-! DEFINITION. The event unit's records: raising an event, the pending word and INT, the counters, and handing an error to
the error capture. -/

namespace Sys2Proof.Machine

/-! ## Events -/

/-- The bit of an event in the pending and enable registers (R188). -/
def Event.bit : Event → Nat
  | .msg => 0
  | .imqRefused => 1
  | .discard => 2
  | .lostResult => 3
  | .drop => 4
  | .stray => 5
  | .full => 6
  | .rackDown => 7
  | .rackUp => 8
  | .drained => 9
  | .error => 10

/-- A set of events that holds one. -/
def Event.mask (e : Event) : BitVec 11 :=
  BitVec.ofNat 11 (2 ^ e.bit)

/-- Raising an edge event sets it pending (R171). -/
def raise (e : Event) (s : State) : State :=
  { s with events := { s.events with edges := s.events.edges ||| e.mask } }

/-- MSG is pending exactly while the IMQ holds a message (R155). -/
def State.msgPending (s : State) : Bool :=
  !s.imq.messages.isEmpty

/-- The pending state of the eleven events (R172, R188): the edge events as stored, and MSG as the IMQ has it. -/
def State.pendingEvents (s : State) : BitVec 11 :=
  (s.events.edges &&& ~~~Event.msg.mask) ||| (if s.msgPending then Event.msg.mask else 0)

/-- An event is pending. -/
def State.isPending (s : State) (e : Event) : Bool :=
  s.pendingEvents.getLsbD e.bit

/-- INT: asserted while at least one event is both pending and enabled (R174). -/
def State.interrupt (s : State) : Bool :=
  s.pendingEvents &&& s.events.enable != 0

/-- A write to the event-pending register clears each edge event whose bit is 1 (R172). -/
def clearEvents (w : BitVec 11) (s : State) : State :=
  { s with events := { s.events with edges := s.events.edges &&& ~~~w } }

/-! ## Counters -/

/-- The value of a counter (R181). -/
def Counters.get (c : Counters) : CounterId → Nat
  | .captureRefused => c.captureRefused
  | .postRefused => c.postRefused
  | .busySeen => c.busySeen
  | .stray => c.stray
  | .discarded => c.discarded
  | .dropped => c.dropped
  | .cellErr => c.cellErr
  | .imqRefused => c.imqRefused

/-- The counters with one of them set. -/
def Counters.put (c : Counters) (i : CounterId) (v : Nat) : Counters :=
  match i with
  | .captureRefused => { c with captureRefused := v }
  | .postRefused => { c with postRefused := v }
  | .busySeen => { c with busySeen := v }
  | .stray => { c with stray := v }
  | .discarded => { c with discarded := v }
  | .dropped => { c with dropped := v }
  | .cellErr => { c with cellErr := v }
  | .imqRefused => { c with imqRefused := v }

/-- The sum of a counter and an increase, which stops at 65535 (R181). -/
def saturate (v n : Nat) : Nat :=
  min (v + n) Config.counterMax

/-- Increase a counter by n (R181). -/
def bump (i : CounterId) (n : Nat) (s : State) : State :=
  { s with
    events := { s.events with counters := s.events.counters.put i (saturate (s.events.counters.get i) n) } }

/-- Clear a counter (R182). -/
def clearCounter (i : CounterId) (s : State) : State :=
  { s with events := { s.events with counters := s.events.counters.put i 0 } }

/-! ## Error capture -/

/-- An error handed to the error capture fills an empty record and raises ERROR; a held record only counts it, up to 255
(R178). -/
def captureError (e : ErrorInfo) (s : State) : State :=
  match s.events.capture with
  | none => raise .error { s with events := { s.events with capture := some { error := e, overflow := 0 } } }
  | some h =>
    { s with
      events := { s.events with capture := some { h with overflow := min (h.overflow + 1) Config.overflowMax } } }

/-- ERRCLR empties the record and its overflow count, and leaves the ERROR event (R179). -/
def clearCapture (s : State) : State :=
  { s with events := { s.events with capture := none } }

/-- An error of a local access refused before a window was found (R82). -/
def localError (kind : ErrorKind) (a : Access) : ErrorInfo :=
  { kind := kind, source := .localAccess, requester := some a.requester, address := some a.address, window := none,
    slot := none, targetAddr := none }

/-- An error of a local access refused by the window it found (R58, R82). -/
def windowError (kind : ErrorKind) (a : Access) (n : Fin 16) (w : Window) : ErrorInfo :=
  { kind := kind, source := .localAccess, requester := some a.requester, address := some a.address, window := some n,
    slot := some w.slot, targetAddr := some (w.translate a.address) }

/-- The DATA-MISMATCH error: the access's requester and address, the entry's window and target (R16). -/
def mismatchError (a : Access) (e : Entry) : ErrorInfo :=
  { kind := .dataMismatch, source := .localAccess, requester := some a.requester, address := some a.address,
    window := some e.window, slot := some e.slot, targetAddr := some e.targetAddr }

/-- An error of DTT entry n (R11, R12, R21). -/
def entryError (kind : ErrorKind) (n : Fin 8) (e : Entry) : ErrorInfo :=
  { kind := kind, source := .dttEntry n, requester := some e.requester, address := some e.address,
    window := some e.window, slot := some e.slot, targetAddr := some e.targetAddr }

/-- An error of a PWQ item (R45, R47). -/
def itemError (kind : ErrorKind) (i : Item) : ErrorInfo :=
  match i.kind with
  | .write window requester address targetAddr =>
    { kind := kind, source := .postedWrite, requester := some requester, address := some address,
      window := some window, slot := some i.slot, targetAddr := some targetAddr }
  | .message =>
    { kind := kind, source := .message, requester := none, address := none, window := none, slot := some i.slot,
      targetAddr := none }

end Sys2Proof.Machine
end

