-- ==== Sys2Proof/Machine/Ops.lean ====
section
/-! DEFINITION. The operations that several commands share: answering, the bridge controller's notice, DTT entries, the PWQ
and its retirements, outcomes and the deferral unit, and the discard at rack port DOWN. -/

namespace Sys2Proof.Machine

/-! ## Outputs, and the two kinds of step -/

/-- The state with the answer of the local port as its only output. -/
def State.reply (a : Answer) (s : State) : State :=
  { s with answer := some a, sent := none }

/-- The state with no output yet. -/
def State.quiet (s : State) : State :=
  { s with answer := none, sent := none }

/-- A well-formed register write: answered DONE, with its effect (R83, R84); while CRST is asserted, answered RETRY without
effect (R74). -/
def registerStep (effect : State → State) (s : State) : StepOutcome :=
  .next (if s.lines.crst then s.reply .retry else (effect s).reply (.done .nothing))

/-- A step that no local access makes: no answer, and no effect while CRST is asserted, when every block stands at its
card-reset values and the time base is stopped (R74, R108, R123, R175). -/
def blockStep (effect : State → State) (s : State) : StepOutcome :=
  .next (if s.lines.crst then s.quiet else effect s.quiet)

/-! ## The bridge controller's notice -/

/-- Entry n of the DTT; `none` is FREE. -/
def Dtt.entry (d : Dtt) (n : Fin 8) : Option Entry :=
  d.entries.get n

/-- The DTT occupancy: the number of entries that are not FREE (R29). -/
def Dtt.occupancy (d : Dtt) : Nat :=
  d.entries.toList.countP Option.isSome

/-- The drain condition: DTT occupancy 0 and PWQ occupancy 0 (R163). -/
def State.drainCondition (s : State) : Bool :=
  s.dtt.occupancy == 0 && s.pwq.items.isEmpty

/-- The bridge enters DRAINED and raises DRAINED, in that order (R163). -/
def enterDrainedState (s : State) : State :=
  raise .drained { s with bridge := { s.bridge with state := .drained } }

/-- A notice reaches the bridge controller: in DRAINING with the drain condition it finishes the drain, and otherwise it
changes nothing (R163). It is taken in the step that sends it (DEDUCED from R162, R164 and R168, assumption 5). -/
def notice (s : State) : State :=
  if s.bridge.state = .draining ∧ s.drainCondition then enterDrainedState s else s

/-! ## DTT entries -/

/-- Put an entry, or FREE, at index n. -/
def setEntry (n : Fin 8) (e : Option Entry) (s : State) : State :=
  { s with dtt := { s.dtt with entries := s.dtt.entries.set n.val e n.isLt } }

/-- Change every entry that is not FREE. -/
def mapEntries (f : Entry → Entry) (v : Vector (Option Entry) 8) : Vector (Option Entry) 8 :=
  ⟨⟨v.toArray.toList.map (Option.map f)⟩, by simp⟩

/-- Entry n becomes FREE and leaves the capture order; its timer goes with it (R15, R21, R26). -/
def freeEntry (n : Fin 8) (s : State) : State :=
  { s with
    dtt := { s.dtt with
      entries := s.dtt.entries.set n.val none n.isLt
      order := s.dtt.order.filter (· ≠ n) } }

/-- An origin joins the tail of the ready list (R87). -/
def join (os : List Origin) (s : State) : State :=
  { s with arbiter := { s.arbiter with ready := s.arbiter.ready ++ os } }

/-- An entry that enters COMPLETE, its discard timer started by the code now held (R19). -/
def Entry.completed (e : Entry) (code : BitVec 5) (r : TxnResult) : Entry :=
  { e with phase := .complete r (discardTicks code) }

/-- Entry n enters COMPLETE with a result. -/
def complete (n : Fin 8) (e : Entry) (r : TxnResult) (s : State) : State :=
  setEntry n (some (e.completed s.dtt.discardTime r)) s

/-- An entry ends with a failure: COMPLETE, and one error of the same kind captured (R11, R12). -/
def failEntry (n : Fin 8) (e : Entry) (r : TxnResult) (k : ErrorKind) (s : State) : State :=
  captureError (entryError k n e) (complete n e r s)

/-! ## Retirement of the PWQ head -/

/-- One retirement: a writes-ahead count above 0 falls by 1 (R8). -/
def Entry.oneLess (e : Entry) : Entry :=
  match e.phase with
  | .waiting k => { e with phase := .waiting (k - 1) }
  | _ => e

/-- Entry n waits for exactly one more retirement. -/
def State.waitsForOne (s : State) (n : Fin 8) : Bool :=
  match s.dtt.entry n with
  | some e => e.phase = .waiting 1
  | none => false

/-- Step 2 of a retirement: every writes-ahead count above 0 falls by 1, and the entries that reach 0 join the ready list in
capture order (R8, R46). -/
def releaseWaiters (s : State) : State :=
  join ((s.dtt.order.filter s.waitsForOne).map .dtt)
    { s with dtt := { s.dtt with entries := mapEntries Entry.oneLess s.dtt.entries } }

/-- Steps 3 and 4 of a retirement: the head leaves, the next item becomes the head and READY, and P joins (R33, R46). -/
def advanceQueue (s : State) : State :=
  match s.pwq.items with
  | [] => s
  | [_] => { s with pwq := { s.pwq with items := [] } }
  | _ :: h :: t => join [.posted] { s with pwq := { s.pwq with items := { h with cond := .ready } :: t } }

/-- A retirement of the head, after its report: steps 2 to 5 of R46. -/
def retire (s : State) : State :=
  let t := advanceQueue (releaseWaiters s)
  if t.pwq.items.isEmpty then notice t else t

/-- A final failure drops the head: DROPPED, DROP and one captured error, then the retirement (R45). -/
def dropHead (h : Item) (k : ErrorKind) (s : State) : State :=
  retire (captureError (itemError k h) (raise .drop (bump .dropped 1 s)))

/-- Change the head. -/
def setHead (h : Item) (s : State) : State :=
  { s with pwq := { s.pwq with items := h :: s.pwq.items.tail } }

/-! ## Outcomes (R98) and the deferral unit (R130) -/

/-- What the arbiter hands an origin's owner when a cell leaves flight; `accept` with the payload as read data. -/
inductive CellOutcome where
  | accept (data : List Byte)
  | busy
  | reject
  | noAnswer
  | malformed
deriving DecidableEq, Repr

/-- An ACCEPT's payload as an entry's read data; a CWRITE holds none (R10). -/
def TxnKind.readData (k : TxnKind) (data : List Byte) : List Byte :=
  match k with
  | .cwrite => []
  | _ => data

/-- BUSY for entry n: BUSY-SEEN counts it, and the entry is deferred or exhausted (R12, R130, R133). -/
def busyEntry (n : Fin 8) (e : Entry) (s : State) : State :=
  let s := bump .busySeen 1 s
  if mayRetry e.budget e.attempts then
    setEntry n (some { e with phase := .deferred (deferralTicks e.step e.attempts) }) s
  else failEntry n e .exhausted .exhausted s

/-- An outcome for entry n, which acts on an ISSUED entry (R10 to R12). No other entry has a cell in flight (R9), so none
gets an outcome; in a state where one would, it changes nothing (DESIGN CHOICE, assumption 16; safe: no run reaches it). -/
def entryOutcome (n : Fin 8) (o : CellOutcome) (s : State) : State :=
  match s.dtt.entry n with
  | none => s
  | some e =>
    if e.phase = .issued then
      match o with
      | .accept data => complete n e (.ok (e.kind.readData data)) s
      | .busy => busyEntry n e s
      | .reject => failEntry n e .rejected .rejected s
      | .noAnswer => failEntry n e .noAnswer .noAnswer s
      | .malformed => failEntry n e .malformed .malformed s
    else s

/-- BUSY for the head: BUSY-SEEN counts it, and the head is deferred or dropped as exhausted (R44, R130, R133). -/
def busyHead (h : Item) (s : State) : State :=
  let s := bump .busySeen 1 s
  if mayRetry h.budget h.attempts then
    setHead { h with cond := .deferred (deferralTicks h.step h.attempts) } s
  else dropHead h .exhausted s

/-- An outcome for the PWQ head, which acts on a head IN-FLIGHT (R43 to R45); otherwise as in `entryOutcome`. -/
def headOutcome (o : CellOutcome) (s : State) : State :=
  match s.pwq.items with
  | [] => s
  | h :: _ =>
    if h.cond = .inFlight then
      match o with
      | .accept _ => retire s
      | .busy => busyHead h s
      | .reject => dropHead h .rejected s
      | .noAnswer => dropHead h .noAnswer s
      | .malformed => dropHead h .malformed s
    else s

/-- Hand an outcome to an origin's owner (R98). -/
def handOutcome (o : Origin) (c : CellOutcome) (s : State) : State :=
  match o with
  | .dtt n => entryOutcome n c s
  | .posted => headOutcome c s

/-! ## Rack port DOWN -/

/-- The arbiter at DOWN: in-flight set and ready list emptied, no outcome handed (R102). -/
def flushArbiter (s : State) : State :=
  { s with arbiter := { s.arbiter with ready := [], inFlight := [] } }

/-- An entry at DOWN: WAITING, ISSUED and DEFERRED complete with RACK-DOWN, COMPLETE stays (R23). -/
def Entry.rackDown (code : BitVec 5) (e : Entry) : Entry :=
  match e.phase with
  | .complete _ _ => e
  | _ => e.completed code .rackDown

/-- The DTT at DOWN (R23). -/
def completeRackDown (s : State) : State :=
  { s with dtt := { s.dtt with entries := mapEntries (Entry.rackDown s.dtt.discardTime) s.dtt.entries } }

/-- The PWQ at DOWN: every item discarded and counted, DROP raised once, one RACK-DOWN error for the head, then the empty
notice (R47). A queue that held nothing sends none (R168; DEDUCED, assumption 14; safe). -/
def discardQueue (s : State) : State :=
  match s.pwq.items with
  | [] => s
  | h :: _ =>
    notice { captureError (itemError .rackDown h) (raise .drop (bump .dropped s.pwq.items.length s)) with
      pwq := { s.pwq with items := [] } }

end Sys2Proof.Machine
end

