-- ==== Sys2Proof/Machine/CardReset.lean ====
section
/-! DEFINITION. Card reset and the release of CRST (R4, R32, R54, R74, R92, R94, R108, R123, R148, R159, R175). -/

namespace Sys2Proof.Machine

/-- Every block at its card-reset values with CRST asserted; the level of RRST and the queue of commands are no part of the
reset. While CRST is asserted the port stands at DOWN with own slot 0 (DEDUCED from R108, assumption 2; unsafe). -/
def cardResetState (s : State) : State :=
  { State.reset with lines := { crst := true, rrst := s.lines.rrst }, pending := s.pending }

/-- The release of CRST: the port takes its state from the level of RRST, and the time base starts a fresh count (R108,
R123). -/
def releaseCrst (pins : Slot) (s : State) : State :=
  { s with
    lines := { s.lines with crst := false }
    rack := if s.lines.rrst then { state := .down, ownSlot := 0 } else { state := .paused, ownSlot := pins }
    time := { s.time with tickLength := s.time.timebase, refPeriods := 0 } }

/-- CARD_RESET: power-on or CRST asserted. -/
def execCardReset (s : State) : StepOutcome := .next (cardResetState s)

/-- CRST_RELEASE: acts when the line changes from asserted to released. -/
def execCrstRelease (pins : Slot) (s : State) : StepOutcome :=
  .next (if s.lines.crst then releaseCrst pins s.quiet else s.quiet)

end Sys2Proof.Machine
end

