-- ==== Sys2Proof/Machine/Bridge.lean ====
section
/-! DEFINITION. The bridge commands START, DRAIN, PURGE, STOP (09), GO and PAUSE (06), and the entry into DRAINED. -/

namespace Sys2Proof.Machine

/-- The command status, set by each bridge command in its own step (R160). -/
def setStatus (c : CommandStatus) (s : State) : State :=
  { s with bridge := { s.bridge with commandStatus := c } }

/-- The bridge state, with command status OK. -/
def setBridge (b : BridgeState) (s : State) : State :=
  { s with bridge := { state := b, commandStatus := .ok } }

/-- START sets RUNNING from any state (R161). -/
def startOp (s : State) : State :=
  setBridge .running s

/-- DRAIN (R162): in RUNNING it enters DRAINING and applies the drain condition in the same step. -/
def drainOp (s : State) : State :=
  match s.bridge.state with
  | .running => notice (setBridge .draining s)
  | .draining | .drained => setStatus .ok s
  | .stopped => setStatus .state s

/-- An entry that is COMPLETE. -/
def Entry.isComplete (e : Entry) : Bool :=
  match e.phase with
  | .complete _ _ => true
  | _ => false

/-- Entry n is COMPLETE. -/
def State.completeAt (s : State) (n : Fin 8) : Bool :=
  match s.dtt.entry n with
  | some e => e.isComplete
  | none => false

/-- The DTT's part of a purge (R26): each COMPLETE entry is freed and counted in DISCARDED, and sends its notice; no event
is raised. -/
def purgeEntry (n : Fin 8) (s : State) : State :=
  if s.completeAt n then notice (bump .discarded 1 (freeEntry n s)) else s

/-- PURGE (R164): taken in DRAINING and DRAINED. -/
def purgeOp (s : State) : State :=
  match s.bridge.state with
  | .draining | .drained => eight.foldl (fun t n => purgeEntry n t) (setStatus .ok s)
  | .stopped | .running => setStatus .state s

/-- STOP (R165): taken in DRAINED and STOPPED. -/
def stopOp (s : State) : State :=
  match s.bridge.state with
  | .drained | .stopped => setBridge .stopped s
  | .running | .draining => setStatus .state s

/-- GO (R109). What the arbiter then issues are ISSUE steps (assumption 6). -/
def goOp (s : State) : State :=
  match s.rack.state with
  | .down => setStatus .rackDown s
  | .paused | .online => setStatus .ok { s with rack := { s.rack with state := .online } }

/-- PAUSE (R110). -/
def pauseOp (s : State) : State :=
  match s.rack.state with
  | .down => setStatus .rackDown s
  | .paused | .online => setStatus .ok { s with rack := { s.rack with state := .paused } }

/-- START. -/
def execStart (s : State) : StepOutcome := registerStep startOp s

/-- DRAIN. -/
def execDrain (s : State) : StepOutcome := registerStep drainOp s

/-- PURGE. -/
def execPurge (s : State) : StepOutcome := registerStep purgeOp s

/-- STOP. -/
def execStop (s : State) : StepOutcome := registerStep stopOp s

/-- GO. -/
def execGo (s : State) : StepOutcome := registerStep goOp s

/-- PAUSE. -/
def execPause (s : State) : StepOutcome := registerStep pauseOp s

/-- ENTER_DRAINED: a notice reaches the bridge controller (R163). -/
def execEnterDrained (s : State) : StepOutcome := blockStep notice s

/-- A write of the bridge command register: the command named in bits 3 to 0; another code names none (R160, R187). -/
def bridgeCommandWrite (w : Word) (s : State) : State :=
  match (w.extractLsb' 0 4).toNat with
  | 1 => startOp s
  | 2 => drainOp s
  | 3 => purgeOp s
  | 4 => stopOp s
  | 5 => goOp s
  | 6 => pauseOp s
  | _ => s

end Sys2Proof.Machine
end

