-- ==== Sys2Proof/Machine/Events.lean ====
section
/-! DEFINITION. The event unit's registers: ERRCLR, the pending and enable registers, the counters (10). -/

namespace Sys2Proof.Machine

/-- A write of the event-pending register: bits 10 to 0 are the events (R172, R188). -/
def eventPendingClearOp (w : Word) (s : State) : State :=
  clearEvents (w.extractLsb' 0 11) s

/-- A write of the event-enable register sets all eleven enables (R174, R185). -/
def eventEnableWriteOp (w : Word) (s : State) : State :=
  { s with events := { s.events with enable := w.extractLsb' 0 11 } }

/-- A write to ERRCLR. -/
def execErrclr (s : State) : StepOutcome := registerStep clearCapture s

/-- A write to the event-pending register. -/
def execEventPendingClear (w : Word) (s : State) : StepOutcome := registerStep (eventPendingClearOp w) s

/-- A write to the event-enable register. -/
def execEventEnableWrite (w : Word) (s : State) : StepOutcome := registerStep (eventEnableWriteOp w) s

/-- A write to a counter. -/
def execCounterClear (c : CounterId) (s : State) : StepOutcome := registerStep (clearCounter c) s

end Sys2Proof.Machine
end

