-- ==== Sys2Proof/Machine/Messages.lean ====
section
/-! DEFINITION. Acceptance into the PWQ, the compose buffer, SEND and the message retry settings (02). -/

namespace Sys2Proof.Machine

/-- A new item at the tail of the PWQ: READY with P on the ready list when the queue was empty, and QUEUED otherwise (R33,
R34, R39). -/
def appendItem (i : Item) (s : State) : State :=
  if s.pwq.items.isEmpty then join [.posted] { s with pwq := { s.pwq with items := [{ i with cond := .ready }] } }
  else { s with pwq := { s.pwq with items := s.pwq.items ++ [{ i with cond := .queued }] } }

/-- The length of a message is a multiple of 4 from 4 to 32 (R38, R149). -/
def goodLength (n : Nat) : Bool :=
  n % 4 == 0 && decide (4 ≤ n) && decide (n ≤ 32)

/-- The send status that the checks of R38 give, in their order. -/
def sendVerdict (s : State) : SendStatus :=
  if s.bridge.state ≠ .running then .state
  else if s.rack.state = .down then .rackDown
  else if s.compose.destination = s.rack.ownSlot then .self
  else if !goodLength s.compose.length.toNat then .badLength
  else if Config.pwqDepth ≤ s.pwq.items.length then .full
  else .queued

/-- The MESSAGE item a SEND makes: the first length ÷ 4 payload words, under MSG_BUDGET and MSG_STEP (R39, R194). -/
def composedItem (c : Compose) : Item :=
  { kind := .message
    slot := c.destination
    data := (c.payload.toArray.toList.take (c.length.toNat / 4)).flatMap bytesOfWord
    budget := c.msgBudget
    step := c.msgStep
    attempts := 0
    cond := .queued }

/-- The send status, the outcome of the last SEND (R38). -/
def setSendStatus (c : SendStatus) (s : State) : State :=
  { s with compose := { s.compose with sendStatus := c } }

/-- SEND (R38, R39). -/
def sendOp (s : State) : State :=
  let verdict := sendVerdict s
  if verdict = .queued then setSendStatus .queued (appendItem (composedItem s.compose) s)
  else setSendStatus verdict s

/-- A write of a compose register sets its field as written (R37, R192). -/
def composeWriteOp (f : ComposeReg) (w : Word) (s : State) : State :=
  match f with
  | .destination => { s with compose := { s.compose with destination := w.extractLsb' 0 4 } }
  | .length => { s with compose := { s.compose with length := w.extractLsb' 0 8 } }
  | .payload k => { s with compose := { s.compose with payload := s.compose.payload.set k.val w k.isLt } }

/-- A write of MSG_BUDGET and MSG_STEP sets both (R40, R185). -/
def msgRetryWriteOp (w : Word) (s : State) : State :=
  { s with
    compose := { s.compose with msgBudget := w.extractLsb' 0 4, msgStep := takeNonzero (w.extractLsb' 8 8) } }

/-- SEND. -/
def execSend (s : State) : StepOutcome := registerStep sendOp s

/-- A write to a compose register. -/
def execComposeWrite (f : ComposeReg) (w : Word) (s : State) : StepOutcome := registerStep (composeWriteOp f w) s

/-- A write to the message retry register. -/
def execMsgRetryWrite (w : Word) (s : State) : StepOutcome := registerStep (msgRetryWriteOp w) s

end Sys2Proof.Machine
end

