-- ==== Sys2Proof/Machine/Inbound.lean ====
section
/-! DEFINITION. The inbound message queue: arrivals, POP and the IMQ control (08). -/

namespace Sys2Proof.Machine

/-- The number of stored messages from a sender, as the IMQ keeps it (R146). -/
def Imq.count (q : Imq) (sender : Slot) : Nat :=
  q.counts.get sender.toFin

/-- Set the count of a sender. -/
def Imq.withCount (q : Imq) (sender : Slot) (v : Nat) : Imq :=
  { q with counts := q.counts.set sender.toFin.val v sender.toFin.isLt }

/-- The IMQ's answer to an arrival: the checks of R149 in their order. -/
def arrivalAnswer (q : Imq) (sender : Slot) (length : Nat) : TargetAnswer :=
  if !q.enable then .reject
  else if !goodLength length then .reject
  else if q.quota.toNat ≤ q.count sender then .busy
  else if Config.imqDepth ≤ q.messages.length then .busy
  else .accept

/-- Storing an arrival: the tail, the next sequence number, the sender's count (R150). -/
def storeMessage (sender : Slot) (payload : List Byte) (q : Imq) : Imq :=
  { q.withCount sender (q.count sender + 1) with
    messages := q.messages ++ [{ sender := sender, payload := payload, sequence := q.sequence }]
    sequence := q.sequence + 1 }

/-- An arrival: stored, or refused with the counter and the event (R149 to R151). -/
def arrival (sender : Slot) (payload : List Byte) (s : State) : State :=
  match arrivalAnswer s.imq sender payload.length with
  | .accept => { s with imq := storeMessage sender payload s.imq }
  | .busy | .reject => raise .imqRefused (bump .imqRefused 1 s)

/-- POP removes the head, or finds the queue empty (R154). -/
def popOp (s : State) : State :=
  match s.imq.messages with
  | [] => { s with imq := { s.imq with status := .empty } }
  | m :: rest =>
    { s with imq := { s.imq.withCount m.sender (s.imq.count m.sender - 1) with messages := rest, status := .ok } }

/-- A write of the IMQ control sets the enable and the quota together (R147, R185). -/
def imqControlWriteOp (w : Word) (s : State) : State :=
  { s with imq := { s.imq with enable := w.getLsbD 0, quota := takeQuota (w.extractLsb' 8 6) } }

/-- POP. -/
def execPop (s : State) : StepOutcome := registerStep popOp s

/-- A write to the IMQ control. -/
def execImqControlWrite (w : Word) (s : State) : StepOutcome := registerStep (imqControlWriteOp w) s

end Sys2Proof.Machine
end

