-- ==== Sys2Proof/Machine/Settings.lean ====
section
/-! DEFINITION. The settings ISSUE_CAP, RESP_TIMEOUT, DISCARD_TIME and TIMEBASE, each taken as R185 gives. -/

namespace Sys2Proof.Machine

/-- ISSUE_CAP, bits 2 to 0 (R88). -/
def issueCapWriteOp (w : Word) (s : State) : State :=
  { s with arbiter := { s.arbiter with issueCap := takeIssueCap (w.extractLsb' 0 3) } }

/-- RESP_TIMEOUT, bits 7 to 0; running timers keep their ticks (R96). -/
def respTimeoutWriteOp (w : Word) (s : State) : State :=
  { s with arbiter := { s.arbiter with respTimeout := takeNonzero (w.extractLsb' 0 8) } }

/-- DISCARD_TIME, bits 4 to 0; running timers keep their ticks (R18, R20). -/
def discardTimeWriteOp (w : Word) (s : State) : State :=
  { s with dtt := { s.dtt with discardTime := takeDiscardTime (w.extractLsb' 0 5) } }

/-- TIMEBASE, bits 7 to 0; the tick in progress keeps its length (R123). -/
def timebaseWriteOp (w : Word) (s : State) : State :=
  { s with time := { s.time with timebase := takeNonzero (w.extractLsb' 0 8) } }

/-- A write to ISSUE_CAP. What the arbiter may then issue are ISSUE steps (R90, assumption 6). -/
def execIssueCapWrite (w : Word) (s : State) : StepOutcome := registerStep (issueCapWriteOp w) s

/-- A write to RESP_TIMEOUT. -/
def execRespTimeoutWrite (w : Word) (s : State) : StepOutcome := registerStep (respTimeoutWriteOp w) s

/-- A write to DISCARD_TIME. -/
def execDiscardTimeWrite (w : Word) (s : State) : StepOutcome := registerStep (discardTimeWriteOp w) s

/-- A write to TIMEBASE. -/
def execTimebaseWrite (w : Word) (s : State) : StepOutcome := registerStep (timebaseWriteOp w) s

end Sys2Proof.Machine
end

