-- ==== Sys2Proof/Machine/Windows.lean ====
section
/-! DEFINITION. The staging record and the window commands COMMIT, LOAD and DISABLE (03, 3.4). -/

namespace Sys2Proof.Machine

/-- The window status, the outcome of the last window command (R62). -/
def setWindowStatus (c : WindowStatus) (s : State) : State :=
  { s with windows := { s.windows with status := c } }

/-- Replace entry n as a whole. -/
def setWindow (n : Fin 16) (w : Window) (s : State) : State :=
  { s with windows := { s.windows with entries := s.windows.entries.set n.val w n.isLt } }

/-- Replace the staging record. -/
def setStaging (w : Window) (s : State) : State :=
  { s with windows := { s.windows with staging := w } }

/-- A window command on entry n; an index above 15 is refused with BAD-INDEX (R62). -/
def windowCommand (n : BitVec 8) (effect : Fin 16 → State → State) (s : State) : State :=
  if h : n.toNat < 16 then effect ⟨n.toNat, h⟩ s else setWindowStatus .badIndex s

/-- COMMIT of entry n: judged by R63, and taken whole when nothing fails (R64). -/
def commitEntry (n : Fin 16) (s : State) : State :=
  let verdict := s.windows.staging.judge
  if verdict = .ok then setWindowStatus .ok (setWindow n s.windows.staging s) else setWindowStatus verdict s

/-- LOAD of entry n into the staging record (R65). -/
def loadEntry (n : Fin 16) (s : State) : State :=
  setWindowStatus .ok (setStaging (s.windows.entries.get n) s)

/-- DISABLE of entry n, which keeps its other fields (R66). -/
def disableEntry (n : Fin 16) (s : State) : State :=
  setWindowStatus .ok (setWindow n { s.windows.entries.get n with enable := false } s)

/-- A write of a staging word (R61, R189). -/
def stagingWriteOp (f : StagingReg) (w : Word) (s : State) : State :=
  setStaging (s.windows.staging.stage f w) s

/-- COMMIT n. -/
def execCommit (n : BitVec 8) (s : State) : StepOutcome := registerStep (windowCommand n commitEntry) s

/-- LOAD n. -/
def execLoad (n : BitVec 8) (s : State) : StepOutcome := registerStep (windowCommand n loadEntry) s

/-- DISABLE n. -/
def execDisable (n : BitVec 8) (s : State) : StepOutcome := registerStep (windowCommand n disableEntry) s

/-- A write to a staging word. -/
def execStagingWrite (f : StagingReg) (w : Word) (s : State) : StepOutcome := registerStep (stagingWriteOp f w) s

/-- A write of the window command register: the command in bits 3 to 0 and the index in bits 15 to 8; another code names no
command (R62, R189). -/
def windowCommandWrite (w : Word) (s : State) : State :=
  match (w.extractLsb' 0 4).toNat with
  | 1 => windowCommand (w.extractLsb' 8 8) commitEntry s
  | 2 => windowCommand (w.extractLsb' 8 8) loadEntry s
  | 3 => windowCommand (w.extractLsb' 8 8) disableEntry s
  | _ => s

end Sys2Proof.Machine
end

