-- ==== Sys2Proof/Machine/RegisterWindow.lean ====
section
/-! DEFINITION. The register window: what each register shows and how it takes a write (11). -/

namespace Sys2Proof.Machine

/-! ## Codes of the views -/

/-- R186. -/
def PortState.code : PortState → Nat
  | .down => 0
  | .paused => 1
  | .online => 2

/-- R187. -/
def BridgeState.code : BridgeState → Nat
  | .stopped => 0
  | .running => 1
  | .draining => 2
  | .drained => 3

/-- R187. -/
def CommandStatus.code : CommandStatus → Nat
  | .ok => 0
  | .state => 1
  | .rackDown => 2

/-- R189. -/
def WindowStatus.code : WindowStatus → Nat
  | .ok => 0
  | .badSize => 1
  | .badAlign => 2
  | .badIndex => 3

/-- R190; FREE is 0. -/
def Phase.code : Phase → Nat
  | .waiting _ => 1
  | .issued => 2
  | .deferred _ => 3
  | .complete _ _ => 4

/-- R190. -/
def TxnKind.code : TxnKind → Nat
  | .read => 1
  | .cwrite => 2
  | .exchange => 3

/-- R190. -/
def TxnResult.code : TxnResult → Nat
  | .ok _ => 1
  | .rejected => 2
  | .noAnswer => 3
  | .exhausted => 4
  | .malformed => 5
  | .rackDown => 6

/-- The result field of an entry, 0 unless COMPLETE (R190). -/
def Phase.resultCode : Phase → Nat
  | .complete r _ => r.code
  | _ => 0

/-- R191. -/
def ErrorKind.code : ErrorKind → Nat
  | .misaligned => 1
  | .notStarted => 2
  | .rackDown => 3
  | .noWindow => 4
  | .permission => 5
  | .selfTarget => 6
  | .dataMismatch => 7
  | .rejected => 8
  | .noAnswer => 9
  | .exhausted => 10
  | .malformed => 11
  | .lostResult => 12

/-- R191. -/
def ErrorSource.code : ErrorSource → Nat
  | .localAccess => 1
  | .dttEntry _ => 2
  | .postedWrite => 3
  | .message => 4

/-- The DTT entry number field, 0 for another source (R191). -/
def ErrorSource.entryNumber : ErrorSource → Nat
  | .dttEntry n => n.val
  | _ => 0

/-- R192. -/
def SendStatus.code : SendStatus → Nat
  | .idle => 0
  | .queued => 1
  | .state => 2
  | .rackDown => 3
  | .self => 4
  | .badLength => 5
  | .full => 6

/-- R193. -/
def ImqStatus.code : ImqStatus → Nat
  | .ok => 0
  | .empty => 1

/-! ## Views -/

/-- The word at 0x004 (R186). -/
def portWord (s : State) : Word :=
  fields [(0, s.rack.ownSlot.toNat), (8, s.rack.state.code)]

/-- The bridge status at 0x00C (R187). -/
def bridgeStatusWord (s : State) : Word :=
  fields [(0, s.bridge.state.code), (4, s.bridge.commandStatus.code), (8, s.dtt.occupancy), (16, s.pwq.items.length),
    (24, s.imq.messages.length)]

/-- The DTT view word of an entry; a FREE entry reads 0 (R28, R190). -/
def dttViewWord : Option Entry → Word
  | none => 0
  | some e =>
    fields [(0, e.phase.code), (4, e.requester.toNat), (8, e.kind.code), (12, e.window.val), (16, e.attempts),
      (24, e.phase.resultCode)]

/-- The number of an optional field, 0 when absent. -/
def orZero : Option Nat → Nat
  | some v => v
  | none => 0

/-- The word at 0x180 of a held error (R191). -/
def captureKindWord (i : ErrorInfo) : Word :=
  fields [(0, 1), (4, i.kind.code), (8, i.source.code), (12, i.source.entryNumber),
    (16, orZero (i.requester.map BitVec.toNat)), (24, bitOf i.requester.isSome), (25, bitOf i.address.isSome),
    (26, bitOf i.window.isSome), (27, bitOf i.slot.isSome), (28, bitOf i.targetAddr.isSome)]

/-- A word of the error capture; every one reads 0 when the record is empty (R176, R191). -/
def captureView (s : State) (word : Held → Word) : Word :=
  match s.events.capture with
  | none => 0
  | some h => word h

/-- The head header at 0x300 (R153, R193). -/
def imqHeaderWord (q : Imq) : Word :=
  match q.messages with
  | [] => fields [(31, 1)]
  | m :: _ => fields [(0, m.sequence.toNat), (8, m.payload.length), (16, m.sender.toNat)]

/-- Payload word k of the head (R153). -/
def imqPayloadWord (q : Imq) (k : Fin 8) : Word :=
  match q.messages with
  | [] => 0
  | m :: _ => payloadWord m.payload k.val

/-- A word of the compose buffer (R37, R192). -/
def composeWord (c : Compose) : ComposeReg → Word
  | .destination => fields [(0, c.destination.toNat)]
  | .length => fields [(0, c.length.toNat)]
  | .payload k => c.payload.get k

/-- What a read of a register returns; a read has no effect, and a command register reads 0 (R84, R184). -/
def readReg (s : State) : Reg → Word
  | .identification => Config.identification
  | .portWord => portWord s
  | .bridgeCommand => 0
  | .bridgeStatus => bridgeStatusWord s
  | .timebase => fields [(0, s.time.timebase.toNat)]
  | .respTimeout => fields [(0, s.arbiter.respTimeout.toNat)]
  | .discardTime => fields [(0, s.dtt.discardTime.toNat)]
  | .issueCap => fields [(0, s.arbiter.issueCap.toNat)]
  | .eventPending => fields [(0, s.pendingEvents.toNat)]
  | .eventEnable => fields [(0, s.events.enable.toNat)]
  | .counter c => fields [(0, s.events.counters.get c)]
  | .staging f => s.windows.staging.view f
  | .windowCommand => 0
  | .windowStatus => fields [(0, s.windows.status.code)]
  | .dttView n => dttViewWord (s.dtt.entry n)
  | .captureKind => captureView s fun h => captureKindWord h.error
  | .captureLocal => captureView s fun h => fields [(0, orZero (h.error.address.map BitVec.toNat))]
  | .captureTarget => captureView s fun h => fields [(0, orZero (h.error.targetAddr.map BitVec.toNat))]
  | .captureWindow => captureView s fun h =>
      fields [(0, orZero (h.error.window.map Fin.val)), (8, orZero (h.error.slot.map BitVec.toNat))]
  | .captureOverflow => captureView s fun h => fields [(0, h.overflow)]
  | .errclr => 0
  | .compose f => composeWord s.compose f
  | .send => 0
  | .sendStatus => fields [(0, s.compose.sendStatus.code)]
  | .msgRetry => fields [(0, s.compose.msgBudget.toNat), (8, s.compose.msgStep.toNat)]
  | .imqHeader => imqHeaderWord s.imq
  | .imqPayload k => imqPayloadWord s.imq k
  | .pop => 0
  | .imqControl => fields [(0, bitOf s.imq.enable), (8, s.imq.quota.toNat)]
  | .imqStatus => fields [(0, s.imq.status.code)]

/-! ## Writes -/

/-- What a write to a register does; a read-only register ignores it (R84, R184, R185). -/
def writeReg (r : Reg) (w : Word) (s : State) : State :=
  match r with
  | .bridgeCommand => bridgeCommandWrite w s
  | .timebase => timebaseWriteOp w s
  | .respTimeout => respTimeoutWriteOp w s
  | .discardTime => discardTimeWriteOp w s
  | .issueCap => issueCapWriteOp w s
  | .eventPending => eventPendingClearOp w s
  | .eventEnable => eventEnableWriteOp w s
  | .counter c => clearCounter c s
  | .staging f => stagingWriteOp f w s
  | .windowCommand => windowCommandWrite w s
  | .errclr => clearCapture s
  | .compose f => composeWriteOp f w s
  | .send => sendOp s
  | .msgRetry => msgRetryWriteOp w s
  | .pop => popOp s
  | .imqControl => imqControlWriteOp w s
  | .identification | .portWord | .bridgeStatus | .windowStatus | .dttView _ => s
  | .captureKind | .captureLocal | .captureTarget | .captureWindow | .captureOverflow => s
  | .sendStatus | .imqHeader | .imqPayload _ | .imqStatus => s

/-- A read at an offset; 0 where no register is assigned (R84). -/
def readOffset (off : BitVec 12) (s : State) : Word :=
  match Reg.ofOffset off with
  | some r => readReg s r
  | none => 0

/-- A write at an offset; ignored where no register is assigned (R84). -/
def writeOffset (off : BitVec 12) (w : Word) (s : State) : State :=
  match Reg.ofOffset off with
  | some r => writeReg r w s
  | none => s

/-- A register-select access with CRST released (R83, R84). -/
def registerSelect (a : RegAccess) (s : State) : State :=
  if !a.wellFormed then s.reply .fault
  else
    match a.kind with
    | .read => s.reply (.done (.word (readOffset a.offset s)))
    | .write => (writeOffset a.offset a.word s).reply (.done .nothing)
    | .exchange => s.reply .fault

end Sys2Proof.Machine
end

