-- ==== Sys2Proof/Machine/LocalPort.lean ====
section
/-! DEFINITION. The local port: the seven-step decision of a window-select access, and the other accesses (01, 04). -/

namespace Sys2Proof.Machine

/-! ## Matching (R2) -/

/-- The access kind that matches a kind of entry (R2). -/
def TxnKind.accessKind : TxnKind → AccessKind
  | .read => .read
  | .cwrite => .write
  | .exchange => .exchange

/-- An access agrees with an entry in the four values of the key (R2). -/
def Entry.hasKey (e : Entry) (a : Access) : Bool :=
  e.requester == a.requester && e.kind.accessKind == a.kind && e.address == a.address && e.size == a.size

/-- The entry that an access matches, with its number (R2). No two entries have one key, so there is at most one. -/
def Dtt.matching (d : Dtt) (a : Access) : Option (Fin 8 × Entry) :=
  eight.findSome? fun n =>
    match d.entry n with
    | some e => if e.hasKey a then some (n, e) else none
    | none => none

/-! ## Step 2: a matching access (R14 to R16) -/

/-- The write data of a WRITE or an EXCHANGE differs from the entry's, in any byte of the size; a READ has none (R16). -/
def mismatch (a : Access) (e : Entry) : Bool :=
  a.kind != .read && a.data.take a.size != e.data

/-- The answer that delivers a result (R15). -/
def collectAnswer (k : TxnKind) (r : TxnResult) : Answer :=
  match r with
  | .ok data =>
    match k with
    | .cwrite => .done .nothing
    | _ => .done (.bytes data)
  | _ => .fault

/-- A matching access is decided by the DTT alone (R14 to R17). -/
def represent (a : Access) (n : Fin 8) (e : Entry) (s : State) : State :=
  if mismatch a e then (captureError (mismatchError a e) s).reply .fault
  else
    match e.phase with
    | .complete r _ => (notice (freeEntry n s)).reply (collectAnswer e.kind r)
    | _ => s.reply .retry

/-! ## Step 7: capture and acceptance -/

/-- The lowest-numbered FREE entry (R5). -/
def Dtt.firstFree (d : Dtt) : Option (Fin 8) :=
  eight.find? fun n => (d.entry n).isNone

/-- The kind of a captured access (R5). -/
def captureKind : AccessKind → TxnKind
  | .read => .read
  | .write => .cwrite
  | .exchange => .exchange

/-- The entry of a capture, with the snapshot of its window (R5, R6). -/
def capturedEntry (a : Access) (n : Fin 16) (w : Window) (writesAhead : Nat) : Entry :=
  { requester := a.requester, kind := captureKind a.kind, address := a.address, size := a.size, data := a.writeData,
    window := n, slot := w.slot, targetAddr := w.translate a.address, budget := w.budget, step := w.step,
    attempts := 0, phase := .waiting writesAhead }

/-- Entry m is captured: set, appended to the capture order, and on the ready list when nothing is ahead of it (R5). -/
def captureAt (m : Fin 8) (e : Entry) (s : State) : State :=
  let t := setEntry m (some e) { s with dtt := { s.dtt with order := s.dtt.order ++ [m] } }
  if e.phase = .waiting 0 then join [.dtt m] t else t

/-- A capture, answered RETRY whether it is taken or refused for a full DTT (R5, R7). -/
def capture (a : Access) (n : Fin 16) (w : Window) (s : State) : State :=
  match s.dtt.firstFree with
  | some m => (captureAt m (capturedEntry a n w s.pwq.items.length) s).reply .retry
  | none => (raise .full (bump .captureRefused 1 s)).reply .retry

/-- The item of a posted write, with the snapshot of its window (R34, R36). -/
def postedItem (a : Access) (n : Fin 16) (w : Window) : Item :=
  { kind := .write n a.requester a.address (w.translate a.address), slot := w.slot, data := a.writeData,
    budget := w.budget, step := w.step, attempts := 0, cond := .queued }

/-- Acceptance, answered DONE; or its refusal for a full PWQ, answered RETRY (R34, R35). -/
def accept (a : Access) (n : Fin 16) (w : Window) (s : State) : State :=
  if s.pwq.items.length < Config.pwqDepth then (appendItem (postedItem a n w) s).reply (.done .nothing)
  else (raise .full (bump .postRefused 1 s)).reply .retry

/-- The routing of a permitted access (R59). -/
def route (a : Access) (n : Fin 16) (w : Window) (s : State) : State :=
  if a.kind = .write ∧ w.mode = .posted then accept a n w s else capture a n w s

/-! ## The decision order (R75) -/

/-- A FAULT that the error capture records (R82). -/
def faultWith (e : ErrorInfo) (s : State) : State :=
  (captureError e s).reply .fault

/-- Steps 6 and 7, with the window found (R58, R59). -/
def throughWindow (a : Access) (n : Fin 16) (w : Window) (s : State) : State :=
  if w.slot = s.rack.ownSlot then faultWith (windowError .selfTarget a n w) s
  else if a.kind = .write ∧ w.mode = .readOnly then faultWith (windowError .permission a n w) s
  else if a.kind = .exchange ∧ w.exchange = false then faultWith (windowError .permission a n w) s
  else route a n w s

/-- Steps 3 to 7, for an access that matches no entry (R78 to R80). -/
def newAccess (a : Access) (s : State) : State :=
  match s.bridge.state with
  | .stopped => faultWith (localError .notStarted a) s
  | .draining | .drained => s.reply .retry
  | .running =>
    if s.rack.state = .down then faultWith (localError .rackDown a) s
    else
      match s.windows.lookup a.address with
      | none => faultWith (localError .noWindow a) s
      | some (n, w) => throughWindow a n w s

/-- A window-select access with CRST released: the seven steps (R75). -/
def windowSelect (a : Access) (s : State) : State :=
  if !a.wellFormed then faultWith (localError .misaligned a) s
  else
    match s.dtt.matching a with
    | some (n, e) => represent a n e s
    | none => newAccess a s

/-- An access at the local port: RETRY without effect while CRST is asserted (R74), else as given. -/
def localStep (effect : State → State) (s : State) : StepOutcome :=
  .next (if s.lines.crst then s.reply .retry else effect s)

/-- An access with CRST released, by the select or selects driven (R70, R71). -/
def presented (p : Presented) (s : State) : State :=
  match p with
  | .register a => registerSelect a s
  | .window a => windowSelect a s
  | .both _ => s.reply .fault

/-- WINDOW_SELECT_ACCESS. -/
def execWindowSelectAccess (a : Access) (s : State) : StepOutcome := localStep (windowSelect a) s

/-- BOTH_SELECTS_ACCESS (R71). -/
def execBothSelectsAccess (a : Access) (s : State) : StepOutcome := localStep (presented (.both a)) s

/-- ACCESS_DURING_CARD_RESET (R74). With CRST released the same access is decided by its select. -/
def execAccessDuringCardReset (p : Presented) (s : State) : StepOutcome := localStep (presented p) s

/-- MALFORMED_REGISTER_ACCESS (R83). -/
def execMalformedRegisterAccess (a : RegAccess) (s : State) : StepOutcome := localStep (presented (.register a)) s

/-- REGISTER_WRITE (R84). -/
def execRegisterWrite (a : RegAccess) (s : State) : StepOutcome := localStep (registerSelect a) s

end Sys2Proof.Machine
end

