-- ==== Sys2Proof/Machine/Arbiter.lean ====
section
/-! DEFINITION. The issue arbiter: issuing an origin, matching a response, and the expiry of a response timer (05). -/

namespace Sys2Proof.Machine

/-! ## Issue (R89, R94, R95) -/

/-- The kind of an entry's request cell (R95). -/
def TxnKind.cellKind : TxnKind → CellKind
  | .read => .read
  | .cwrite => .write
  | .exchange => .exchange

/-- The request cell of a DTT entry (R9, R95). -/
def entryRequest (e : Entry) : Request :=
  { kind := e.kind.cellKind, dest := e.slot, address := e.targetAddr, count := e.size,
    payload := match e.kind with
      | .read => []
      | _ => e.data }

/-- The request cell of the PWQ head (R42, R95). A MESSAGE has no address, and its frame holds none. -/
def itemRequest (i : Item) : Request :=
  match i.kind with
  | .write _ _ _ targetAddr =>
    { kind := .write, dest := i.slot, address := targetAddr, count := i.data.length, payload := i.data }
  | .message => { kind := .message, dest := i.slot, address := 0, count := i.data.length, payload := i.data }

/-- The request cell of an origin's record. -/
def originRequest (o : Origin) (s : State) : Option Request :=
  match o with
  | .dtt n => (s.dtt.entry n).map entryRequest
  | .posted => s.pwq.items.head?.map itemRequest

/-- The owner is told of an issue: ISSUED or IN-FLIGHT, and one attempt more (R9, R42). -/
def tellIssued (o : Origin) (s : State) : State :=
  match o with
  | .dtt n =>
    match s.dtt.entry n with
    | some e => setEntry n (some { e with attempts := nextAttempts e.attempts, phase := .issued }) s
    | none => s
  | .posted =>
    match s.pwq.items with
    | h :: _ => setHead { h with attempts := nextAttempts h.attempts, cond := .inFlight } s
    | [] => s

/-- The arbiter may issue: something is ready, the port is ONLINE, a slot is free under ISSUE_CAP (R89). -/
def State.mayIssue (s : State) : Bool :=
  !s.arbiter.ready.isEmpty && s.rack.state == .online && decide (s.arbiter.inFlight.length < s.arbiter.issueCap.toNat)

/-- The in-flight record of an issue (R94). -/
def issueRecord (o : Origin) (gen : BitVec 4) (r : Request) (a : Arbiter) : InFlight :=
  { origin := o, gen := gen, kind := r.kind, size := r.count, left := respTicks a.respTimeout }

/-- The six parts of issuing origin o, the front of the ready list whose rest is given, in the order of R94. -/
def issueOrigin (o : Origin) (rest : List Origin) (r : Request) (s : State) : State :=
  let gen := s.arbiter.generations.get o.index + 1
  let told := tellIssued o
    { s with
      arbiter := { s.arbiter with
        ready := rest
        generations := s.arbiter.generations.set o.index.val gen o.index.isLt
        inFlight := s.arbiter.inFlight ++ [issueRecord o gen r s.arbiter] } }
  { told with sent := some (requestFrame s.rack.ownSlot o gen r) }

/-- The arbiter's turn: issue the front of the ready list if R89 allows it, else nothing. One ISSUE step issues one origin,
and a further one the next (assumption 6). -/
def issueOp (s : State) : State :=
  if s.mayIssue then
    match s.arbiter.ready with
    | [] => s
    | o :: rest =>
      match originRequest o s with
      | some r => issueOrigin o rest r s
      | none => s
  else s

/-! ## Responses (R98, R99) -/

/-- Classify an answer against the record it matches: the table of R98. -/
def classify (code : BitVec 3) (payload : List Byte) (r : InFlight) : CellOutcome :=
  if code = 0 then
    match r.kind with
    | .read | .exchange => if payload.length = r.size then .accept payload else .malformed
    | .write | .message => if payload.isEmpty then .accept [] else .malformed
  else if code = 1 then (if payload.isEmpty then .busy else .malformed)
  else if code = 2 then (if payload.isEmpty then .reject else .malformed)
  else .malformed

/-- The in-flight record that a tag matches (R98). -/
def Arbiter.matching (a : Arbiter) (origin gen : BitVec 4) : Option InFlight :=
  a.inFlight.find? fun r => r.origin.number == origin && r.gen == gen

/-- Remove the in-flight record of an origin; its timer goes with it. -/
def removeRecord (o : Origin) (s : State) : State :=
  { s with arbiter := { s.arbiter with inFlight := s.arbiter.inFlight.filter fun r => r.origin ≠ o } }

/-- A response with its tag, answer code and payload: matched, classified and handed on, or dropped as a stray (R98, R99). -/
def response (origin gen : BitVec 4) (code : BitVec 3) (payload : List Byte) (s : State) : State :=
  match s.arbiter.matching origin gen with
  | some r => handOutcome r.origin (classify code payload r) (removeRecord r.origin s)
  | none => raise .stray (bump .stray 1 s)

/-! ## Response timers (R97) -/

/-- The response timer of an origin's record has run out. -/
def Arbiter.expired (a : Arbiter) (o : Origin) : Bool :=
  a.inFlight.any fun r => decide (r.origin = o) && r.left == 0

/-- The expiry of an origin's response timer: the slot is freed and NO-ANSWER handed to the owner (R97). A timer that has
been stopped, or has ticks left, does not expire (R100; assumption 7). -/
def responseExpiryOp (o : Origin) (s : State) : State :=
  if s.arbiter.expired o then handOutcome o .noAnswer (removeRecord o s) else s

/-- ISSUE. -/
def execIssue (s : State) : StepOutcome := blockStep issueOp s

/-- RESPONSE_TIMER_EXPIRY. -/
def execResponseTimerExpiry (o : Origin) (s : State) : StepOutcome := blockStep (responseExpiryOp o) s

end Sys2Proof.Machine
end

