-- ==== Sys2Proof/Machine/RackPort.lean ====
section
/-! DEFINITION. The rack port: reception of a cell, and the assertion and release of RRST (06). -/

namespace Sys2Proof.Machine

/-- The port sends a response cell to the sender of the request it received (R117). -/
def answerRequest (f : List Byte) (a : TargetAnswer) (s : State) : State :=
  { s with sent := some (responseFrame s.rack.ownSlot (frameSource f) (frameOrigin f) (frameGen f) a) }

/-- A kept REQUEST: a MESSAGE is offered to the IMQ and gets its answer; every other kind is refused with REJECT (R121). -/
def inboundRequest (f : List Byte) (s : State) : State :=
  if frameCode f = CellKind.message.code then
    answerRequest f (arrivalAnswer s.imq (frameSource f) (framePayload f).length)
      (arrival (frameSource f) (framePayload f) s)
  else answerRequest f .reject s

/-- Reception (R105, R118 to R121): nothing in DOWN; a damaged cell is counted; a cell for another slot is ignored; a
RESPONSE goes to the arbiter and a REQUEST to the inbound rules. -/
def receive (f : List Byte) (s : State) : State :=
  if s.rack.state = .down then s
  else if damaged f then bump .cellErr 1 s
  else if frameDest f ≠ s.rack.ownSlot then s
  else if frameType f = 2 then response (frameOrigin f) (frameGen f) (frameCode f) (framePayload f) s
  else inboundRequest f s

/-- The entry into DOWN, in the order of R106. -/
def enterDown (s : State) : State :=
  raise .rackDown
    (discardQueue (completeRackDown (flushArbiter { s with rack := { s.rack with state := .down } })))

/-- The leaving of DOWN: PAUSED, the own slot sampled, RACK-UP raised (R107). -/
def leaveDown (pins : Slot) (s : State) : State :=
  raise .rackUp { s with rack := { state := .paused, ownSlot := pins } }

/-- The level of RRST. -/
def setRrst (level : Bool) (s : State) : State :=
  { s with lines := { s.lines with rrst := level } }

/-- CELL_RECEPTION. -/
def execCellReception (f : List Byte) (s : State) : StepOutcome := blockStep (receive f) s

/-- RRST_ASSERT: the entry into DOWN when the line changes from released to asserted (R106); while CRST is asserted the
change is not acted on, and only the line's level is followed (R108). -/
def execRrstAssert (s : State) : StepOutcome :=
  .next (if s.lines.crst || s.lines.rrst then setRrst true s.quiet else enterDown (setRrst true s.quiet))

/-- RRST_RELEASE, likewise: the leaving of DOWN when the line changes from asserted to released (R107, R108). -/
def execRrstRelease (pins : Slot) (s : State) : StepOutcome :=
  .next (if s.lines.crst || !s.lines.rrst then setRrst false s.quiet else leaveDown pins (setRrst false s.quiet))

end Sys2Proof.Machine
end

