-- ==== Sys2Proof/Machine/Timers.lean ====
section
/-! DEFINITION. Deferral and discard expiries, and the ticks of the time base (R13, R21, R33, R123, R124, R134). -/

namespace Sys2Proof.Machine

/-- The deferral timer of an origin expires: the entry becomes WAITING with writes-ahead 0, or the head READY, and the
origin joins the tail of the ready list (R13, R33, R134). A timer that has been stopped, or has ticks left, does not expire
(R137; assumption 7). -/
def deferralExpiryOp (o : Origin) (s : State) : State :=
  match o with
  | .dtt n =>
    match s.dtt.entry n with
    | some e =>
      if e.phase = .deferred 0 then join [o] (setEntry n (some { e with phase := .waiting 0 }) s) else s
    | none => s
  | .posted =>
    match s.pwq.items with
    | h :: _ => if h.cond = .deferred 0 then join [o] (setHead { h with cond := .ready } s) else s
    | [] => s

/-- The result of a discarded entry meant a change at the target that nobody learnt of: OK for a CWRITE or an EXCHANGE
(R21). -/
def losesResult (k : TxnKind) (r : TxnResult) : Bool :=
  match k, r with
  | .cwrite, .ok _ => true
  | .exchange, .ok _ => true
  | _, _ => false

/-- LOST-RESULT and its error, where R21 says so. -/
def reportLoss (n : Fin 8) (e : Entry) (r : TxnResult) (s : State) : State :=
  if losesResult e.kind r then captureError (entryError .lostResult n e) (raise .lostResult s) else s

/-- The discard timer of a COMPLETE entry expires: the entry is freed, DISCARDED counts it, DISCARD is raised, LOST-RESULT
where due, then the notice, in the order of R30 (R21). -/
def discardExpiryOp (n : Fin 8) (s : State) : State :=
  match s.dtt.entry n with
  | some e =>
    match e.phase with
    | .complete r (some 0) => notice (reportLoss n e r (raise .discard (bump .discarded 1 (freeEntry n s))))
    | _ => s
  | none => s

/-- One tick fewer left on the timer an entry runs (R124). -/
def Entry.tick (e : Entry) : Entry :=
  match e.phase with
  | .deferred k => { e with phase := .deferred (k - 1) }
  | .complete r (some k) => { e with phase := .complete r (some (k - 1)) }
  | _ => e

/-- One tick fewer left on the deferral timer an item runs (R124). -/
def Item.tick (i : Item) : Item :=
  match i.cond with
  | .deferred k => { i with cond := .deferred (k - 1) }
  | _ => i

/-- The tick in progress ends: every running timer has one tick fewer left, and the next tick has the length TIMEBASE
holds (R123, R124). A timer that has run out waits at 0 for its expiry to be taken (assumption 7). -/
def tickOp (s : State) : State :=
  { s with
    dtt := { s.dtt with entries := mapEntries Entry.tick s.dtt.entries }
    pwq := { s.pwq with items := s.pwq.items.map Item.tick }
    arbiter := { s.arbiter with inFlight := s.arbiter.inFlight.map fun r => { r with left := r.left - 1 } }
    time :=
      { s.time with
        tickLength := s.time.timebase
        refPeriods := s.time.refPeriods + s.time.tickLength.toNat } }

/-- DEFERRAL_EXPIRY. -/
def execDeferralExpiry (o : Origin) (s : State) : StepOutcome := blockStep (deferralExpiryOp o) s

/-- DISCARD_EXPIRY. -/
def execDiscardExpiry (n : Fin 8) (s : State) : StepOutcome := blockStep (discardExpiryOp n) s

/-- TIME_BASE_TICK. -/
def execTimeBaseTick (s : State) : StepOutcome := blockStep tickOp s

end Sys2Proof.Machine
end

