-- ==== Sys2Proof/Machine/Dispatch.lean ====
section
/-! DEFINITION. What each command does to everything but the queue: one arm for each row of spec/opcode_table.json, in the
table's order, each one call of its meaning. -/

namespace Sys2Proof.Machine

/-- The meaning of a command. -/
def exec (i : Instr) (s : State) : Host.Outcome State Fault Refusal :=
  match i with
  | .windowSelectAccess a => Sys2Proof.Machine.execWindowSelectAccess a s
  | .bothSelectsAccess a => Sys2Proof.Machine.execBothSelectsAccess a s
  | .accessDuringCardReset p => Sys2Proof.Machine.execAccessDuringCardReset p s
  | .malformedRegisterAccess a => Sys2Proof.Machine.execMalformedRegisterAccess a s
  | .registerWrite a => Sys2Proof.Machine.execRegisterWrite a s
  | .start => Sys2Proof.Machine.execStart s
  | .drain => Sys2Proof.Machine.execDrain s
  | .purge => Sys2Proof.Machine.execPurge s
  | .stop => Sys2Proof.Machine.execStop s
  | .go => Sys2Proof.Machine.execGo s
  | .pause => Sys2Proof.Machine.execPause s
  | .enterDrained => Sys2Proof.Machine.execEnterDrained s
  | .commit n => Sys2Proof.Machine.execCommit n s
  | .load n => Sys2Proof.Machine.execLoad n s
  | .disable n => Sys2Proof.Machine.execDisable n s
  | .stagingWrite f w => Sys2Proof.Machine.execStagingWrite f w s
  | .send => Sys2Proof.Machine.execSend s
  | .composeWrite f w => Sys2Proof.Machine.execComposeWrite f w s
  | .msgRetryWrite w => Sys2Proof.Machine.execMsgRetryWrite w s
  | .pop => Sys2Proof.Machine.execPop s
  | .imqControlWrite w => Sys2Proof.Machine.execImqControlWrite w s
  | .errclr => Sys2Proof.Machine.execErrclr s
  | .eventPendingClear w => Sys2Proof.Machine.execEventPendingClear w s
  | .eventEnableWrite w => Sys2Proof.Machine.execEventEnableWrite w s
  | .counterClear c => Sys2Proof.Machine.execCounterClear c s
  | .issueCapWrite w => Sys2Proof.Machine.execIssueCapWrite w s
  | .respTimeoutWrite w => Sys2Proof.Machine.execRespTimeoutWrite w s
  | .discardTimeWrite w => Sys2Proof.Machine.execDiscardTimeWrite w s
  | .timebaseWrite w => Sys2Proof.Machine.execTimebaseWrite w s
  | .issue => Sys2Proof.Machine.execIssue s
  | .cellReception f => Sys2Proof.Machine.execCellReception f s
  | .responseTimerExpiry o => Sys2Proof.Machine.execResponseTimerExpiry o s
  | .deferralExpiry o => Sys2Proof.Machine.execDeferralExpiry o s
  | .discardExpiry n => Sys2Proof.Machine.execDiscardExpiry n s
  | .rrstAssert => Sys2Proof.Machine.execRrstAssert s
  | .rrstRelease pins => Sys2Proof.Machine.execRrstRelease pins s
  | .cardReset => Sys2Proof.Machine.execCardReset s
  | .crstRelease pins => Sys2Proof.Machine.execCrstRelease pins s
  | .timeBaseTick => Sys2Proof.Machine.execTimeBaseTick s

end Sys2Proof.Machine
end

