-- ==== Sys2Proof/WellFormed.lean ====
section
/-! DEFINITION. Well-formed commands: the terms of `Instr` that stand for something that can be presented to the part as the
row says. -/

namespace Sys2Proof

/-- The term of a presented access is one: a window-select or double-select WRITE or EXCHANGE carries as many bytes as its
size (R70). -/
def Presented.isWellFormed : Presented → Bool
  | .register _ => true
  | .window a => a.dataFits
  | .both a => a.dataFits

/-- A command is well formed: write data fits the size (R70), MALFORMED_REGISTER_ACCESS carries an access that is not well
formed and REGISTER_WRITE one that is (R83). Every other command is, whatever its operands. -/
def Instr.isWellFormed : Instr → Bool
  | .windowSelectAccess a => a.dataFits
  | .bothSelectsAccess a => a.dataFits
  | .accessDuringCardReset p => p.isWellFormed
  | .malformedRegisterAccess a => !a.wellFormed
  | .registerWrite a => a.wellFormed
  | .start | .drain | .purge | .stop | .go | .pause | .enterDrained => true
  | .commit _ | .load _ | .disable _ | .stagingWrite _ _ => true
  | .send | .composeWrite _ _ | .msgRetryWrite _ => true
  | .pop | .imqControlWrite _ => true
  | .errclr | .eventPendingClear _ | .eventEnableWrite _ | .counterClear _ => true
  | .issueCapWrite _ | .respTimeoutWrite _ | .discardTimeWrite _ | .timebaseWrite _ => true
  | .issue | .cellReception _ | .responseTimerExpiry _ | .deferralExpiry _ | .discardExpiry _ => true
  | .rrstAssert | .rrstRelease _ | .cardReset | .crstRelease _ | .timeBaseTick => true

end Sys2Proof
end

