-- ==== Sys2Proof/Safety.lean ====
section
/-! DEFINITION. What a sound state of the part is: the invariants its rules promise, each a decidable proposition named for
the rule it comes from, and the state itself free of what no run shows. -/

namespace Sys2Proof

/-! ## What a command is -/

/-- The register that a register-select access writes, if it writes one (R83, R84). -/
def RegAccess.target (a : RegAccess) : Option Reg :=
  if a.wellFormed ∧ a.kind = .write then Reg.ofOffset a.offset else none

/-- The register that a command writes, if it is a register write. -/
def Instr.target : Instr → Option Reg
  | .accessDuringCardReset (.register a) | .malformedRegisterAccess a | .registerWrite a => a.target
  | .start | .drain | .purge | .stop | .go | .pause => some .bridgeCommand
  | .commit _ | .load _ | .disable _ => some .windowCommand
  | .stagingWrite f _ => some (.staging f)
  | .send => some .send
  | .composeWrite f _ => some (.compose f)
  | .msgRetryWrite _ => some .msgRetry
  | .pop => some .pop
  | .imqControlWrite _ => some .imqControl
  | .errclr => some .errclr
  | .eventPendingClear _ => some .eventPending
  | .eventEnableWrite _ => some .eventEnable
  | .counterClear c => some (.counter c)
  | .issueCapWrite _ => some .issueCap
  | .respTimeoutWrite _ => some .respTimeout
  | .discardTimeWrite _ => some .discardTime
  | .timebaseWrite _ => some .timebase
  | .windowSelectAccess _ | .bothSelectsAccess _ | .accessDuringCardReset (.window _) => none
  | .accessDuringCardReset (.both _) => none
  | .enterDrained | .issue | .cellReception _ | .responseTimerExpiry _ | .deferralExpiry _ | .discardExpiry _ => none
  | .rrstAssert | .rrstRelease _ | .cardReset | .crstRelease _ | .timeBaseTick => none

/-- A command that a local master presents: an access or a register write, which the local port answers (R70, R83). -/
def Instr.isAccess (c : Instr) : Bool :=
  match c with
  | .windowSelectAccess _ | .bothSelectsAccess _ | .accessDuringCardReset _ => true
  | .malformedRegisterAccess _ | .registerWrite _ => true
  | _ => c.target.isSome

end Sys2Proof

namespace Sys2Proof.Machine

/-! ## Occasions -/

/-- CRST is released, so the part takes commands (R74, R108). -/
abbrev State.live (s : State) : Prop :=
  s.lines.crst = false

/-- An access matches no entry (R2). -/
abbrev State.unmatched (s : State) (a : Access) : Prop :=
  ∀ n : Fin 8, ∀ e ∈ s.dtt.entry n, e.hasKey a = false

/-- The rack port keeps a received cell: it is not DOWN, the cell is not damaged, and its destination is the own slot
(R118, R119). -/
abbrev State.keeps (s : State) (f : List Byte) : Prop :=
  s.rack.state ≠ .down ∧ damaged f = false ∧ frameDest f = s.rack.ownSlot

/-- The discard timer that a completion now starts, in ticks (R18, R19). -/
def State.freshDiscard (s : State) : Option Nat :=
  if s.dtt.discardTime = 0 then none else some (2 ^ s.dtt.discardTime.toNat)

/-! ## Settings, windows, counts -/

/-- The settings hold legal values (R18, R40, R88, R96, R123, R147, R185). -/
abbrev State.settingsLegal (s : State) : Prop :=
  s.time.timebase ≠ 0 ∧ s.time.tickLength ≠ 0 ∧ s.arbiter.respTimeout ≠ 0 ∧ s.compose.msgStep ≠ 0 ∧
    (s.dtt.discardTime = 0 ∨ (6 ≤ s.dtt.discardTime.toNat ∧ s.dtt.discardTime.toNat ≤ 16)) ∧
    (1 ≤ s.arbiter.issueCap.toNat ∧ s.arbiter.issueCap.toNat ≤ 4) ∧
    (1 ≤ s.imq.quota.toNat ∧ s.imq.quota.toNat ≤ 32)

/-- An enabled entry always holds legal values (R53): the checks of COMMIT pass. -/
abbrev State.windowsLegal (s : State) : Prop :=
  ∀ n : Fin 16, (s.windows.entries.get n).enable = true → (s.windows.entries.get n).judge = .ok

/-- The overflow count of the error capture, 0 when the record is empty (R176). -/
def State.overflow (s : State) : Nat :=
  match s.events.capture with
  | none => 0
  | some h => h.overflow

/-- The counters stay at or below 65535 and the overflow count at or below 255 (R178, R181). -/
abbrev State.countsBounded (s : State) : Prop :=
  (∀ c ∈ CounterId.all, s.events.counters.get c ≤ Config.counterMax) ∧ s.overflow ≤ Config.overflowMax

/-! ## The inbound message queue -/

/-- The IMQ agrees with itself (R144 to R146): at most 32 messages, each of a good length; the messages carry consecutive
sequence numbers that end just below the counter's value; each per-sender count is the number of stored messages from that
sender. -/
abbrev Imq.consistent (q : Imq) : Prop :=
  q.messages.length ≤ Config.imqDepth ∧
    (∀ m ∈ q.messages, goodLength m.payload.length = true) ∧
    (∀ i : Fin q.messages.length,
      (q.messages.get i).sequence + BitVec.ofNat 8 (q.messages.length - i.val) = q.sequence) ∧
    (∀ n : Fin 16, q.counts.get n = q.messages.countP fun m => decide (m.sender.toFin = n))

/-! ## Deferred and posted work, and the arbiter -/

/-- Two entries have one key (R2). -/
abbrev Entry.sameKey (e f : Entry) : Prop :=
  e.requester = f.requester ∧ e.kind = f.kind ∧ e.address = f.address ∧ e.size = f.size

/-- The capture order lists exactly the entries that are not FREE, each once (R3). -/
abbrev State.orderExact (s : State) : Prop :=
  s.dtt.order.Nodup ∧ ∀ n : Fin 8, n ∈ s.dtt.order ↔ (s.dtt.entry n).isSome = true

/-- No two entries that are not FREE have the same key (R2). -/
abbrev State.keysDistinct (s : State) : Prop :=
  ∀ m n : Fin 8, m ≠ n → ∀ e ∈ s.dtt.entry m, ∀ f ∈ s.dtt.entry n, ¬ e.sameKey f

/-- A size that a window-select access may have (R76). -/
abbrev goodSize (n : Nat) : Prop :=
  n = 1 ∨ n = 2 ∨ n = 4 ∨ n = 8

/-- The attempts so far are within the budget, and below it for work that may still be sent (R128, R130). -/
abbrev attemptsAllowed (budget : BitVec 4) (attempts : Nat) (sendable : Bool) : Prop :=
  attempts ≤ Config.attemptsMax ∧
    (budget = 0 ∨ if sendable then attempts < budget.toNat else attempts ≤ budget.toNat)

/-- The entry is WAITING or DEFERRED: its cell may still be sent. -/
def Phase.sendable : Phase → Bool
  | .waiting _ => true
  | .deferred _ => true
  | _ => false

/-- The read data of an entry that is COMPLETE with OK. -/
def Phase.readData : Phase → Option (List Byte)
  | .complete (.ok data) _ => some data
  | _ => none

/-- The read data of an OK result: as many bytes as the size for a READ or an EXCHANGE, none for a CWRITE (R1). -/
abbrev Entry.resultFits (e : Entry) : Prop :=
  ∀ data ∈ e.phase.readData, data.length = if e.kind = .cwrite then 0 else e.size

/-- An entry's fields are those R1 allows. -/
abbrev Entry.shaped (e : Entry) : Prop :=
  goodSize e.size ∧ e.address.toNat % e.size = 0 ∧ (e.kind = .exchange → e.size = 4) ∧
    e.data.length = (if e.kind = .read then 0 else e.size) ∧ e.step ≠ 0 ∧
    attemptsAllowed e.budget e.attempts e.phase.sendable

/-- The local address of a WRITE item; a MESSAGE has none (R31). -/
def ItemKind.localAddress : ItemKind → Option Addr
  | .write _ _ address _ => some address
  | .message => none

/-- An item's fields are those R31 allows. -/
abbrev Item.shaped (i : Item) : Prop :=
  (∀ address ∈ i.kind.localAddress, goodSize i.data.length ∧ address.toNat % i.data.length = 0) ∧
    (i.kind = .message → goodLength i.data.length = true) ∧
    i.step ≠ 0 ∧ attemptsAllowed i.budget i.attempts (i.cond != .inFlight)

/-- The condition of the head is READY, IN-FLIGHT or DEFERRED, and every item behind it is QUEUED with no attempt (R33). -/
abbrev Pwq.conditions (q : Pwq) : Prop :=
  (∀ h ∈ q.items.head?, h.cond ≠ .queued) ∧ ∀ i ∈ q.items.tail, i.cond = .queued ∧ i.attempts = 0

/-- The writes-ahead count of an entry, 0 in every state but WAITING (R1). -/
def Phase.writesAhead : Phase → Nat
  | .waiting w => w
  | _ => 0

/-- An entry's writes-ahead count is at most the number of items in the PWQ (R8). -/
abbrev Entry.aheadAtMost (e : Entry) (k : Nat) : Prop :=
  e.phase.writesAhead ≤ k

/-- The ready list holds each origin at most once; a DTT entry is on it exactly when it is WAITING with writes-ahead 0, and P
exactly when the head is READY (R33, R87). -/
abbrev State.readyExact (s : State) : Prop :=
  s.arbiter.ready.Nodup ∧
    (∀ n : Fin 8, Origin.dtt n ∈ s.arbiter.ready ↔ (s.dtt.entry n).map Entry.phase = some (.waiting 0)) ∧
    (Origin.posted ∈ s.arbiter.ready ↔ s.pwq.items.head?.map Item.cond = some .ready)

/-- The in-flight set holds at most four records and at most one for each origin; an entry is ISSUED exactly when it has
one, and the head IN-FLIGHT exactly when P has one (R9, R94). -/
abbrev State.flightExact (s : State) : Prop :=
  s.arbiter.inFlight.length ≤ 4 ∧ (s.arbiter.inFlight.map InFlight.origin).Nodup ∧
    (∀ n : Fin 8,
      Origin.dtt n ∈ s.arbiter.inFlight.map InFlight.origin ↔ (s.dtt.entry n).map Entry.phase = some .issued) ∧
    (Origin.posted ∈ s.arbiter.inFlight.map InFlight.origin ↔ s.pwq.items.head?.map Item.cond = some .inFlight)

/-- A record holds the kind and the size or length of the cell its origin sent (R94, R95). -/
abbrev State.recordsMatch (s : State) : Prop :=
  ∀ r ∈ s.arbiter.inFlight, ∀ c ∈ originRequest r.origin s, r.kind = c.kind ∧ r.size = c.count

/-- While the port is DOWN, nothing is ready, in flight or posted, and every entry that is not FREE is COMPLETE (R102). -/
abbrev State.quietWhenDown (s : State) : Prop :=
  s.rack.state = .down → s.arbiter.ready = [] ∧ s.arbiter.inFlight = [] ∧ s.pwq.items = [] ∧
    ∀ n : Fin 8, ∀ e ∈ s.dtt.entry n, e.isComplete = true

/-- While the bridge state is STOPPED or DRAINED, every entry is FREE and the PWQ is empty (R159). -/
abbrev State.emptyWhenOff (s : State) : Prop :=
  s.bridge.state = .stopped ∨ s.bridge.state = .drained → s.drainCondition = true

/-- A drain that has nothing left to wait for has finished (R162, R163). -/
abbrev State.drainingBusy (s : State) : Prop :=
  s.bridge.state = .draining → s.drainCondition = false

/-- No work that may still be sent targets the own slot: the window check and the SEND check refused it (R38, R58, R95). -/
abbrev State.neverToSelf (s : State) : Prop :=
  (∀ n : Fin 8, ∀ e ∈ s.dtt.entry n, e.isComplete = false → e.slot ≠ s.rack.ownSlot) ∧
    ∀ i ∈ s.pwq.items, i.slot ≠ s.rack.ownSlot

/-- While CRST is asserted every block stands at its card-reset values, and there is no output but an answer (R74, R108,
assumption 2). -/
abbrev State.heldInReset (s : State) : Prop :=
  s.lines.crst = true →
    s = { State.reset with lines := s.lines, answer := s.answer, pending := s.pending }

/-- The port is DOWN while RRST is asserted (R106, R108). -/
abbrev State.downUnderRrst (s : State) : Prop :=
  s.lines.rrst = true → s.rack.state = .down

/-! ## The whole -/

/-- Deferred and posted work, the ready list and the in-flight set agree with each other (R1 to R3, R8, R9, R31 to R33, R87,
R94). -/
structure State.flowSound (s : State) : Prop where
  order : s.orderExact
  keys : s.keysDistinct
  entries : ∀ n : Fin 8, ∀ e ∈ s.dtt.entry n,
    e.shaped ∧ e.resultFits ∧ e.aheadAtMost s.pwq.items.length
  depth : s.pwq.items.length ≤ Config.pwqDepth
  conditions : s.pwq.conditions
  items : ∀ i ∈ s.pwq.items, i.shaped
  ready : s.readyExact
  flight : s.flightExact
  records : s.recordsMatch

/-- The states of the ports and the bridge allow the work there is (R102, R106, R108, R159, R163). -/
structure State.gatesSound (s : State) : Prop where
  down : s.quietWhenDown
  off : s.emptyWhenOff
  draining : s.drainingBusy
  self : s.neverToSelf
  rrst : s.downUnderRrst
  crst : s.heldInReset

/-- A sound state: what every step keeps, given that the waiting commands are well formed. -/
structure State.sound (s : State) : Prop where
  settings : s.settingsLegal
  windows : s.windowsLegal
  counts : s.countsBounded
  imq : s.imq.consistent
  flow : s.flowSound
  gates : s.gatesSound
  queue : ∀ c ∈ s.pending, c.isWellFormed = true

end Sys2Proof.Machine
end

