-- ==== Sys2Proof/Certificates/Slice0/Obligations.lean ====
section
/-! DEFINITION. The statements for the provers. Each says what its name says; OBLIGATIONS.json gives its title, its words and
the rules it rests on. Where a statement gives the next state whole, every field it does not change is the field it was, so
it is its own frame. -/

open Sys2Proof Sys2Proof.Machine

/-! ## The machine as a whole -/

/-- One step runs the command at the front of the queue with the queue's rest, and an empty queue leaves the part as it is
(the model's queue, assumption 3). -/
def Obligations.StepRunsTheFrontCommand : Prop :=
  (∀ (c : Instr) (rest : List Instr) (s : State), s.pending = c :: rest → step s = exec c { s with pending := rest }) ∧
    ∀ s : State, s.pending = [] → step s = .next s

/-- Every register stands at the offset the map of 11.1 gives it and has the access class given there. Every such offset is a
multiple of 4 below 4096 and names that register, and an offset that is none of them names no register (11.1, R184). -/
def Obligations.EveryRegisterStandsAtItsOffset : Prop :=
  (∀ r : Reg, (r.offset, r.accessClass) = (match r with
    | .identification => (0x000, .readOnly)
    | .portWord => (0x004, .readOnly)
    | .bridgeCommand => (0x008, .command)
    | .bridgeStatus => (0x00C, .readOnly)
    | .timebase => (0x010, .setting)
    | .respTimeout => (0x014, .setting)
    | .discardTime => (0x018, .setting)
    | .issueCap => (0x01C, .setting)
    | .eventPending => (0x020, .writeOneToClear)
    | .eventEnable => (0x024, .setting)
    | .counter .captureRefused => (0x040, .counter)
    | .counter .postRefused => (0x044, .counter)
    | .counter .busySeen => (0x048, .counter)
    | .counter .stray => (0x04C, .counter)
    | .counter .discarded => (0x050, .counter)
    | .counter .dropped => (0x054, .counter)
    | .counter .cellErr => (0x058, .counter)
    | .counter .imqRefused => (0x05C, .counter)
    | .staging .enable => (0x080, .setting)
    | .staging .localBase => (0x084, .setting)
    | .staging .sizeCode => (0x088, .setting)
    | .staging .targetSlot => (0x08C, .setting)
    | .staging .targetBase => (0x090, .setting)
    | .staging .attributes => (0x094, .setting)
    | .windowCommand => (0x098, .command)
    | .windowStatus => (0x09C, .readOnly)
    | .dttView n => (0x100 + 4 * n.val, .readOnly)
    | .captureKind => (0x180, .readOnly)
    | .captureLocal => (0x184, .readOnly)
    | .captureTarget => (0x188, .readOnly)
    | .captureWindow => (0x18C, .readOnly)
    | .captureOverflow => (0x190, .readOnly)
    | .errclr => (0x194, .command)
    | .compose .destination => (0x200, .setting)
    | .compose .length => (0x204, .setting)
    | .compose (.payload k) => (0x208 + 4 * k.val, .setting)
    | .send => (0x228, .command)
    | .sendStatus => (0x22C, .readOnly)
    | .msgRetry => (0x230, .setting)
    | .imqHeader => (0x300, .readOnly)
    | .imqPayload k => (0x304 + 4 * k.val, .readOnly)
    | .pop => (0x324, .command)
    | .imqControl => (0x328, .setting)
    | .imqStatus => (0x32C, .readOnly) : Nat × AccessClass)) ∧
  (∀ r : Reg, r.offset % 4 = 0 ∧ r.offset < 4096 ∧ Reg.ofOffset (BitVec.ofNat 12 r.offset) = some r) ∧
  ∀ off : BitVec 12, (∀ r : Reg, r.offset ≠ off.toNat) → Reg.ofOffset off = none

/-- The reset state is sound: of the two states R108 gives after card reset, the one with RRST asserted, where the port is DOWN
and the own slot 0. That State.reset is that one is the model's choice (assumption 1, DESIGN CHOICE). -/
def Obligations.ResetStateIsSound : Prop :=
  State.reset.sound

/-- Every step from a sound state leads to a sound state: the DTT, the PWQ, the ready list and the in-flight set agree, the
gates of the port and the bridge hold, settings, windows, counts and the IMQ are sound, and the waiting commands stay well
formed. Two of its parts rest on the model's reading: that no DRAINING state has nothing left to wait for, on a notice being
taken in the step that sends it (assumption 5), and that the port stands at DOWN with own slot 0 while CRST is asserted, on
assumption 2. -/
def Obligations.EveryStepKeepsTheStateSound : Prop :=
  ∀ s t : State, s.sound → step s = .next t → t.sound

/-- Every command, from any state, keeps the IMQ consistent: bounded depth, good lengths, consecutive sequence numbers, and
per-sender counts that count (R144 to R146). -/
def Obligations.EveryCommandKeepsTheInboundQueueConsistent : Prop :=
  ∀ (c : Instr) (s t : State), s.imq.consistent → exec c s = .next t → t.imq.consistent

/-- Every command keeps the settings at legal values and every enabled window legal (R53, R185). -/
def Obligations.EveryCommandKeepsSettingsAndWindowsLegal : Prop :=
  ∀ (c : Instr) (s t : State), s.settingsLegal → s.windowsLegal → exec c s = .next t →
    t.settingsLegal ∧ t.windowsLegal

/-- No command takes a counter above 65535 or the overflow count above 255 (R178, R181). -/
def Obligations.EveryCommandKeepsTheCountsBounded : Prop :=
  ∀ (c : Instr) (s t : State), s.countsBounded → exec c s = .next t → t.countsBounded

/-- Once the record holds an error, every command but a card reset and a write of ERRCLR keeps that error, and the overflow
count does not fall (R178). -/
def Obligations.HeldErrorStaysUntilCleared : Prop :=
  ∀ (c : Instr) (s t : State) (h : Held), s.events.capture = some h → h.overflow ≤ Config.overflowMax →
    c ≠ .cardReset → c.target ≠ some .errclr → exec c s = .next t →
      ∃ h' : Held, t.events.capture = some h' ∧ h'.error = h.error ∧ h.overflow ≤ h'.overflow ∧
        h'.overflow ≤ Config.overflowMax

/-- The bridge state changes only by a bridge command, by the entry into DRAINED from DRAINING, which leaves
DRAINED pending, and by card reset (R159). -/
def Obligations.BridgeStateChangesOnlyByCommandOrDrain : Prop :=
  ∀ (c : Instr) (s t : State), exec c s = .next t → t.bridge.state ≠ s.bridge.state →
    c.target = some .bridgeCommand ∨ c = .cardReset ∨
      (s.bridge.state = .draining ∧ t.bridge.state = .drained ∧ t.isPending .drained = true)

/-- The own slot changes only at a release of RRST, where it becomes the level of the slot-ID pins, at a release of CRST, where
it becomes the pins with RRST released and 0 with RRST asserted, and at card reset, where it becomes 0 (R107, R108, R113).
That it is 0 already while CRST is asserted is the model's reading (assumption 2). -/
def Obligations.OwnSlotChangesOnlyAtASampleOrCardReset : Prop :=
  ∀ (c : Instr) (s t : State), exec c s = .next t → t.rack.ownSlot ≠ s.rack.ownSlot →
    (∃ pins : Slot, c = .rrstRelease pins ∧ t.rack.ownSlot = pins) ∨
      (∃ pins : Slot, c = .crstRelease pins ∧ s.lines.rrst = false ∧ t.rack.ownSlot = pins) ∨
      (∃ pins : Slot, c = .crstRelease pins ∧ s.lines.rrst = true ∧ t.rack.ownSlot = 0) ∨
      (c = .cardReset ∧ t.rack.ownSlot = 0)

/-! ## Accesses -/

/-- While CRST is asserted, every access and every register write is answered RETRY and changes nothing (R74). -/
def Obligations.EveryAccessUnderCardResetIsAnsweredRetry : Prop :=
  (∀ (c : Instr) (s : State), s.lines.crst = true → c.isAccess = true →
    exec c s = .next { s with answer := some .retry, sent := none }) ∧
  ∀ (p : Presented) (s : State), s.lines.crst = true →
    exec (.accessDuringCardReset p) s = .next { s with answer := some .retry, sent := none }

/-- An access with both selects driven is answered FAULT and changes nothing (R71). -/
def Obligations.BothSelectsAnsweredFault : Prop :=
  ∀ (a : Access) (s : State), s.live →
    exec (.bothSelectsAccess a) s = .next { s with answer := some .fault, sent := none }

/-- A register-select access that is no aligned 4-byte READ or WRITE is answered FAULT and changes nothing; one that is is
answered DONE in every state, whichever master presents it; RETRY is the answer only while CRST is asserted (R83). -/
def Obligations.MalformedRegisterAccessAnsweredFault : Prop :=
  (∀ (a : RegAccess) (s : State), s.live →
    (a.kind = .exchange ∨ a.size ≠ 4 ∨ a.address.toNat % 4 ≠ 0) →
      exec (.malformedRegisterAccess a) s = .next { s with answer := some .fault, sent := none }) ∧
  (∀ (a : RegAccess) (s : State), s.live → a.kind ≠ .exchange → a.size = 4 → a.address.toNat % 4 = 0 →
    (∃ (t : State) (c : Carried), exec (.registerWrite a) s = .next t ∧ t.answer = some (.done c)) ∧
    ∀ q : Requester, exec (.registerWrite { a with requester := q }) s = exec (.registerWrite a) s) ∧
  ∀ (a : RegAccess) (s : State), s.lines.crst = true →
    exec (.malformedRegisterAccess a) s = .next { s with answer := some .retry, sent := none } ∧
      exec (.registerWrite a) s = .next { s with answer := some .retry, sent := none }

/-- A well-formed register READ is answered DONE with the word its register shows, 0 where no register is assigned, and
changes nothing else; a WRITE to an unassigned offset or a read-only register, or one whose command field names no command,
is answered DONE and changes nothing else (R84, R160, R62, R184, R187, R189). The words shown are given field by field, each
number at its lowest bit and each code as the tables have it, but for the staging words and the event registers, which
StagingWriteSetsExactlyItsWord, PendingWriteClearsTheWrittenEdges and EnableWriteSetsEveryEnableAndInt give (R184 to R194).
That the row REGISTER_WRITE carries READs too is the model's (assumption 4). -/
def Obligations.RegisterReadsShowTheirWordsAndIgnoredWritesChangeNothing : Prop :=
  (∀ (a : RegAccess) (s : State), s.live → a.size = 4 → a.address.toNat % 4 = 0 →
    (a.kind = .read →
      (∀ r, Reg.ofOffset a.offset = some r →
        exec (.registerWrite a) s = .next { s with answer := some (.done (.word (readReg s r))), sent := none }) ∧
      (Reg.ofOffset a.offset = none →
        exec (.registerWrite a) s = .next { s with answer := some (.done (.word 0)), sent := none })) ∧
    (a.kind = .write →
      (Reg.ofOffset a.offset = none ∨ (Reg.ofOffset a.offset).map Reg.accessClass = some .readOnly ∨
        (Reg.ofOffset a.offset = some .bridgeCommand ∧
          (a.word.extractLsb' 0 4 = 0 ∨ 6 < (a.word.extractLsb' 0 4).toNat)) ∨
        (Reg.ofOffset a.offset = some .windowCommand ∧
          (a.word.extractLsb' 0 4 = 0 ∨ 3 < (a.word.extractLsb' 0 4).toNat))) →
        exec (.registerWrite a) s = .next { s with answer := some (.done .nothing), sent := none })) ∧
  ∀ s : State,
    let mark (present : Bool) : Nat := if present = true then 1 else 0
    -- Identification, port and bridge words (R186, R187)
    readReg s .identification = 0x0D410002 ∧
    readReg s .portWord = BitVec.ofNat 32
      (s.rack.ownSlot.toNat +
        (match s.rack.state with
          | .down => 0
          | .paused => 1
          | .online => 2) * 2 ^ 8) ∧
    readReg s .bridgeStatus = BitVec.ofNat 32
      ((match s.bridge.state with
        | .stopped => 0
        | .running => 1
        | .draining => 2
        | .drained => 3) +
        (match s.bridge.commandStatus with
          | .ok => 0
          | .state => 1
          | .rackDown => 2) * 2 ^ 4 +
        eight.countP (fun n => (s.dtt.entry n).isSome) * 2 ^ 8 + s.pwq.items.length * 2 ^ 16 +
        s.imq.messages.length * 2 ^ 24) ∧
    -- Command registers, settings and counters (R184, R185, R188, R192)
    (∀ r ∈ [Reg.bridgeCommand, .windowCommand, .errclr, .send, .pop], readReg s r = 0) ∧
    readReg s .timebase = s.time.timebase.setWidth 32 ∧
    readReg s .respTimeout = s.arbiter.respTimeout.setWidth 32 ∧
    readReg s .discardTime = s.dtt.discardTime.setWidth 32 ∧
    readReg s .issueCap = s.arbiter.issueCap.setWidth 32 ∧
    readReg s .msgRetry = BitVec.ofNat 32 (s.compose.msgBudget.toNat + s.compose.msgStep.toNat * 2 ^ 8) ∧
    readReg s .imqControl = BitVec.ofNat 32 (mark s.imq.enable + s.imq.quota.toNat * 2 ^ 8) ∧
    (∀ c : CounterId, readReg s (.counter c) = BitVec.ofNat 32 (match c with
      | .captureRefused => s.events.counters.captureRefused
      | .postRefused => s.events.counters.postRefused
      | .busySeen => s.events.counters.busySeen
      | .stray => s.events.counters.stray
      | .discarded => s.events.counters.discarded
      | .dropped => s.events.counters.dropped
      | .cellErr => s.events.counters.cellErr
      | .imqRefused => s.events.counters.imqRefused)) ∧
    -- Window status and DTT view (R189, R190)
    readReg s .windowStatus = (match s.windows.status with
      | .ok => 0
      | .badSize => 1
      | .badAlign => 2
      | .badIndex => 3) ∧
    (∀ n : Fin 8, readReg s (.dttView n) = (match s.dtt.entry n with
      | none => 0
      | some e => BitVec.ofNat 32
        ((match e.phase with
          | .waiting _ => 1
          | .issued => 2
          | .deferred _ => 3
          | .complete _ _ => 4) +
          e.requester.toNat * 2 ^ 4 +
          (match e.kind with
            | .read => 1
            | .cwrite => 2
            | .exchange => 3) * 2 ^ 8 +
          e.window.val * 2 ^ 12 + e.attempts * 2 ^ 16 +
          (match e.phase with
            | .complete (.ok _) _ => 1
            | .complete .rejected _ => 2
            | .complete .noAnswer _ => 3
            | .complete .exhausted _ => 4
            | .complete .malformed _ => 5
            | .complete .rackDown _ => 6
            | _ => 0) * 2 ^ 24))) ∧
    -- Error capture (R191)
    (∀ r ∈ [Reg.captureKind, .captureLocal, .captureTarget, .captureWindow, .captureOverflow],
      s.events.capture = none → readReg s r = 0) ∧
    (∀ h : Held, s.events.capture = some h →
      readReg s .captureKind = BitVec.ofNat 32
        (1 +
          (match h.error.kind with
            | .misaligned => 1
            | .notStarted => 2
            | .rackDown => 3
            | .noWindow => 4
            | .permission => 5
            | .selfTarget => 6
            | .dataMismatch => 7
            | .rejected => 8
            | .noAnswer => 9
            | .exhausted => 10
            | .malformed => 11
            | .lostResult => 12) * 2 ^ 4 +
          (match h.error.source with
            | .localAccess => 1
            | .dttEntry _ => 2
            | .postedWrite => 3
            | .message => 4) * 2 ^ 8 +
          (match h.error.source with
            | .dttEntry n => n.val
            | _ => 0) * 2 ^ 12 +
          (h.error.requester.getD 0).toNat * 2 ^ 16 +
          mark h.error.requester.isSome * 2 ^ 24 + mark h.error.address.isSome * 2 ^ 25 +
          mark h.error.window.isSome * 2 ^ 26 + mark h.error.slot.isSome * 2 ^ 27 +
          mark h.error.targetAddr.isSome * 2 ^ 28) ∧
      readReg s .captureLocal = h.error.address.getD 0 ∧
      readReg s .captureTarget = h.error.targetAddr.getD 0 ∧
      readReg s .captureWindow =
        BitVec.ofNat 32 ((h.error.window.getD 0).val + (h.error.slot.getD 0).toNat * 2 ^ 8) ∧
      readReg s .captureOverflow = BitVec.ofNat 32 h.overflow) ∧
    -- Compose buffer and send status (R192)
    readReg s (.compose .destination) = s.compose.destination.setWidth 32 ∧
    readReg s (.compose .length) = s.compose.length.setWidth 32 ∧
    (∀ k : Fin 8, readReg s (.compose (.payload k)) = s.compose.payload.get k) ∧
    readReg s .sendStatus = (match s.compose.sendStatus with
      | .idle => 0
      | .queued => 1
      | .state => 2
      | .rackDown => 3
      | .self => 4
      | .badLength => 5
      | .full => 6) ∧
    -- IMQ head and status (R153, R193, R194)
    readReg s .imqHeader = (match s.imq.messages with
      | [] => 0x80000000
      | m :: _ => BitVec.ofNat 32 (m.sequence.toNat + m.payload.length * 2 ^ 8 + m.sender.toNat * 2 ^ 16)) ∧
    (∀ k : Fin 8, readReg s (.imqPayload k) = (match s.imq.messages with
      | [] => 0
      | m :: _ =>
        let byte (i : Nat) : Nat := (m.payload.getD (4 * k.val + i) 0).toNat
        BitVec.ofNat 32 (byte 0 * 2 ^ 24 + byte 1 * 2 ^ 16 + byte 2 * 2 ^ 8 + byte 3))) ∧
    readReg s .imqStatus = (match s.imq.status with
      | .ok => 0
      | .empty => 1)

/-- A well-formed register WRITE of any other register does what the row of that register does with the written word. -/
def Obligations.RegisterWriteDoesWhatItsRowDoes : Prop :=
  ∀ (a : RegAccess) (s : State), a.size = 4 → a.address.toNat % 4 = 0 → a.kind = .write →
    (Reg.ofOffset a.offset = some .timebase → exec (.registerWrite a) s = exec (.timebaseWrite a.word) s) ∧
    (Reg.ofOffset a.offset = some .respTimeout → exec (.registerWrite a) s = exec (.respTimeoutWrite a.word) s) ∧
    (Reg.ofOffset a.offset = some .discardTime → exec (.registerWrite a) s = exec (.discardTimeWrite a.word) s) ∧
    (Reg.ofOffset a.offset = some .issueCap → exec (.registerWrite a) s = exec (.issueCapWrite a.word) s) ∧
    (Reg.ofOffset a.offset = some .eventPending → exec (.registerWrite a) s = exec (.eventPendingClear a.word) s) ∧
    (Reg.ofOffset a.offset = some .eventEnable → exec (.registerWrite a) s = exec (.eventEnableWrite a.word) s) ∧
    (∀ c, Reg.ofOffset a.offset = some (.counter c) → exec (.registerWrite a) s = exec (.counterClear c) s) ∧
    (∀ f, Reg.ofOffset a.offset = some (.staging f) → exec (.registerWrite a) s = exec (.stagingWrite f a.word) s) ∧
    (Reg.ofOffset a.offset = some .errclr → exec (.registerWrite a) s = exec .errclr s) ∧
    (∀ f, Reg.ofOffset a.offset = some (.compose f) → exec (.registerWrite a) s = exec (.composeWrite f a.word) s) ∧
    (Reg.ofOffset a.offset = some .send → exec (.registerWrite a) s = exec .send s) ∧
    (Reg.ofOffset a.offset = some .msgRetry → exec (.registerWrite a) s = exec (.msgRetryWrite a.word) s) ∧
    (Reg.ofOffset a.offset = some .pop → exec (.registerWrite a) s = exec .pop s) ∧
    (Reg.ofOffset a.offset = some .imqControl → exec (.registerWrite a) s = exec (.imqControlWrite a.word) s) ∧
    (Reg.ofOffset a.offset = some .bridgeCommand →
      (a.word.extractLsb' 0 4 = 1 → exec (.registerWrite a) s = exec .start s) ∧
      (a.word.extractLsb' 0 4 = 2 → exec (.registerWrite a) s = exec .drain s) ∧
      (a.word.extractLsb' 0 4 = 3 → exec (.registerWrite a) s = exec .purge s) ∧
      (a.word.extractLsb' 0 4 = 4 → exec (.registerWrite a) s = exec .stop s) ∧
      (a.word.extractLsb' 0 4 = 5 → exec (.registerWrite a) s = exec .go s) ∧
      (a.word.extractLsb' 0 4 = 6 → exec (.registerWrite a) s = exec .pause s)) ∧
    (Reg.ofOffset a.offset = some .windowCommand →
      (a.word.extractLsb' 0 4 = 1 → exec (.registerWrite a) s = exec (.commit (a.word.extractLsb' 8 8)) s) ∧
      (a.word.extractLsb' 0 4 = 2 → exec (.registerWrite a) s = exec (.load (a.word.extractLsb' 8 8)) s) ∧
      (a.word.extractLsb' 0 4 = 3 → exec (.registerWrite a) s = exec (.disable (a.word.extractLsb' 8 8)) s))

/-- A window-select access is well formed when its size is 1, 2, 4 or 8, its address a multiple of its size, and an EXCHANGE
of size 4; one that is not is answered FAULT with a MISALIGNED error, whatever the DTT, the bridge and the port hold (R76). -/
def Obligations.MisalignedAccessAnsweredFault : Prop :=
  (∀ a : Access, a.wellFormed = true ↔
    (a.size = 1 ∨ a.size = 2 ∨ a.size = 4 ∨ a.size = 8) ∧ a.address.toNat % a.size = 0 ∧
      (a.kind = .exchange → a.size = 4)) ∧
  ∀ (a : Access) (s : State), s.live →
    ((a.size ≠ 1 ∧ a.size ≠ 2 ∧ a.size ≠ 4 ∧ a.size ≠ 8) ∨ a.address.toNat % a.size ≠ 0 ∨
      (a.kind = .exchange ∧ a.size ≠ 4)) →
    exec (.windowSelectAccess a) s =
      .next { captureError
          { kind := .misaligned, source := .localAccess, requester := some a.requester, address := some a.address,
            window := none, slot := none, targetAddr := none } s with
        answer := some .fault, sent := none }

/-- A well-formed access that matches entry n by key is decided by that entry alone, whatever the bridge state, the port and
the windows: FAULT with DATA-MISMATCH and the entry kept, RETRY and nothing changed while it is pending, or the result
delivered and the entry FREE, with its notice (R14 to R17, R77). That the notice is taken in the access's own step is the
model's reading (assumption 5). -/
def Obligations.MatchingAccessIsDecidedByItsEntry : Prop :=
  ∀ (a : Access) (s : State) (n : Fin 8) (e : Entry), s.live → a.wellFormed = true → a.dataFits = true →
    s.keysDistinct → s.dtt.entry n = some e → e.hasKey a = true →
    (a.kind ≠ .read → a.data ≠ e.data →
      exec (.windowSelectAccess a) s =
        .next { captureError
            { kind := .dataMismatch, source := .localAccess, requester := some a.requester, address := some a.address,
              window := some e.window, slot := some e.slot, targetAddr := some e.targetAddr } s with
          answer := some .fault, sent := none }) ∧
    ((a.kind = .read ∨ a.data = e.data) → e.isComplete = false →
      exec (.windowSelectAccess a) s = .next { s with answer := some .retry, sent := none }) ∧
    (∀ r d, (a.kind = .read ∨ a.data = e.data) → e.phase = .complete r d →
      exec (.windowSelectAccess a) s =
        .next { notice { s with
            dtt := { s.dtt with
              entries := s.dtt.entries.set n.val none n.isLt
              order := s.dtt.order.filter (· ≠ n) } } with
          answer := some (match r, e.kind with
            | .ok _, .cwrite => .done .nothing
            | .ok data, _ => .done (.bytes data)
            | _, _ => .fault)
          sent := none })

/-- A well-formed access that matches no entry is refused before the windows: FAULT with NOT-STARTED in STOPPED, RETRY and
nothing else in DRAINING and DRAINED, FAULT with RACK-DOWN while the port is DOWN, FAULT with NO-WINDOW where no enabled
window contains the address (R56, R78 to R80). -/
def Obligations.NewAccessRefusedBeforeTheWindows : Prop :=
  ∀ (a : Access) (s : State), s.live → a.wellFormed = true → s.unmatched a →
    (s.bridge.state = .stopped →
      exec (.windowSelectAccess a) s =
        .next { captureError
            { kind := .notStarted, source := .localAccess, requester := some a.requester, address := some a.address,
              window := none, slot := none, targetAddr := none } s with
          answer := some .fault, sent := none }) ∧
    (s.bridge.state = .draining ∨ s.bridge.state = .drained →
      exec (.windowSelectAccess a) s = .next { s with answer := some .retry, sent := none }) ∧
    (s.bridge.state = .running → s.rack.state = .down →
      exec (.windowSelectAccess a) s =
        .next { captureError
            { kind := .rackDown, source := .localAccess, requester := some a.requester, address := some a.address,
              window := none, slot := none, targetAddr := none } s with
          answer := some .fault, sent := none }) ∧
    (s.bridge.state = .running → s.rack.state ≠ .down →
      (∀ n : Fin 16, (s.windows.entries.get n).contains a.address = false) →
      exec (.windowSelectAccess a) s =
        .next { captureError
            { kind := .noWindow, source := .localAccess, requester := some a.requester, address := some a.address,
              window := none, slot := none, targetAddr := none } s with
          answer := some .fault, sent := none })

/-- The lowest-numbered enabled window that contains the address alone refuses the access: SELF-TARGET where its target slot
is the own slot, else PERMISSION for a WRITE through READ-ONLY or an EXCHANGE not permitted (R56, R58). -/
def Obligations.FoundWindowAloneRefuses : Prop :=
  ∀ (a : Access) (s : State) (n : Fin 16) (w : Window), s.live → a.wellFormed = true → s.unmatched a →
    s.bridge.state = .running → s.rack.state ≠ .down →
    s.windows.entries.get n = w → w.contains a.address = true →
    (∀ m : Fin 16, m < n → (s.windows.entries.get m).contains a.address = false) →
    (w.slot = s.rack.ownSlot →
      exec (.windowSelectAccess a) s =
        .next { captureError
            { kind := .selfTarget, source := .localAccess, requester := some a.requester, address := some a.address,
              window := some n, slot := some w.slot, targetAddr := some (w.targetBase + (a.address - w.localBase)) } s with
          answer := some .fault, sent := none }) ∧
    (w.slot ≠ s.rack.ownSlot →
      ((a.kind = .write ∧ w.mode = .readOnly) ∨ (a.kind = .exchange ∧ w.exchange = false)) →
      exec (.windowSelectAccess a) s =
        .next { captureError
            { kind := .permission, source := .localAccess, requester := some a.requester, address := some a.address,
              window := some n, slot := some w.slot, targetAddr := some (w.targetBase + (a.address - w.localBase)) } s with
          answer := some .fault, sent := none })

/-- A permitted READ, EXCHANGE or WRITE through a CONFIRMED window is answered RETRY: captured into the lowest-numbered FREE
entry with the window's snapshot and the writes ahead of it, on the ready list when nothing is ahead, or, with no entry
FREE, refused with CAPTURE-REFUSED and FULL (R5 to R7, R59). -/
def Obligations.CaptureTakesTheLowestFreeEntry : Prop :=
  ∀ (a : Access) (s : State) (n : Fin 16) (w : Window), s.live → a.wellFormed = true → a.dataFits = true →
    s.unmatched a → s.bridge.state = .running → s.rack.state ≠ .down →
    s.windows.lookup a.address = some (n, w) → w.slot ≠ s.rack.ownSlot →
    (a.kind = .write → w.mode = .confirmed) → (a.kind = .exchange → w.exchange = true) →
    (∀ m : Fin 8, s.dtt.entry m = none → (∀ k : Fin 8, k < m → (s.dtt.entry k).isSome = true) →
      exec (.windowSelectAccess a) s =
        .next { s with
          dtt := { s.dtt with
            entries := s.dtt.entries.set m.val
              (some
                { requester := a.requester
                  kind := match a.kind with
                    | .read => .read
                    | .write => .cwrite
                    | .exchange => .exchange
                  address := a.address, size := a.size
                  data := if a.kind = .read then [] else a.data
                  window := n, slot := w.slot, targetAddr := w.targetBase + (a.address - w.localBase)
                  budget := w.budget, step := w.step, attempts := 0, phase := .waiting s.pwq.items.length }) m.isLt
            order := s.dtt.order ++ [m] }
          arbiter := { s.arbiter with
            ready := if s.pwq.items.length = 0 then s.arbiter.ready ++ [.dtt m] else s.arbiter.ready }
          answer := some .retry, sent := none }) ∧
    ((∀ m : Fin 8, (s.dtt.entry m).isSome = true) →
      exec (.windowSelectAccess a) s =
        .next { s with
          events := { s.events with
            edges := s.events.edges ||| 0x040
            counters := { s.events.counters with captureRefused := min (s.events.counters.captureRefused + 1) 65535 } }
          answer := some .retry, sent := none })

/-- A permitted WRITE through a POSTED window is answered DONE and becomes the tail of the PWQ, the head and on the ready list
when the queue was empty; with 32 items held it is answered RETRY with POST-REFUSED and FULL (R33 to R36). -/
def Obligations.PostedWriteJoinsTheQueue : Prop :=
  ∀ (a : Access) (s : State) (n : Fin 16) (w : Window), s.live → a.wellFormed = true → a.dataFits = true →
    s.unmatched a → s.bridge.state = .running → s.rack.state ≠ .down →
    s.windows.lookup a.address = some (n, w) → w.slot ≠ s.rack.ownSlot → a.kind = .write → w.mode = .posted →
    (s.pwq.items.length < 32 →
      exec (.windowSelectAccess a) s =
        .next { s with
          pwq := { s.pwq with
            items := s.pwq.items ++
              [{ kind := .write n a.requester a.address (w.targetBase + (a.address - w.localBase)), slot := w.slot,
                 data := a.data, budget := w.budget, step := w.step, attempts := 0,
                 cond := if s.pwq.items = [] then .ready else .queued }] }
          arbiter := { s.arbiter with
            ready := if s.pwq.items = [] then s.arbiter.ready ++ [.posted] else s.arbiter.ready }
          answer := some (.done .nothing), sent := none }) ∧
    (32 ≤ s.pwq.items.length →
      exec (.windowSelectAccess a) s =
        .next { s with
          events := { s.events with
            edges := s.events.edges ||| 0x040
            counters := { s.events.counters with postRefused := min (s.events.counters.postRefused + 1) 65535 } }
          answer := some .retry, sent := none })

/-- Through an enabled window with legal values, the target address of an address in its range lies in the target range, with
no carry out of the 32 bits and the low bits of the local address kept (R53, R55, R57). -/
def Obligations.TranslationStaysInTheTargetRange : Prop :=
  ∀ (w : Window) (addr : Addr), w.judge = .ok → w.contains addr = true →
    (w.translate addr).toNat = w.targetBase.toNat + (addr.toNat - w.localBase.toNat) ∧
      w.targetBase.toNat ≤ (w.translate addr).toNat ∧
      (w.translate addr).toNat < w.targetBase.toNat + 2 ^ w.sizeCode.toNat ∧
      (w.translate addr).toNat % 2 ^ w.sizeCode.toNat = addr.toNat % 2 ^ w.sizeCode.toNat

/-! ## The bridge -/

/-- START sets RUNNING from any state with status OK, cancelling a drain, and changes nothing else (R161). -/
def Obligations.StartEntersRunning : Prop :=
  ∀ s : State, s.live →
    exec .start s =
      .next { s with bridge := { state := .running, commandStatus := .ok }, answer := some (.done .nothing), sent := none }

/-- DRAIN: from RUNNING into DRAINING, or at once into DRAINED with the event when all is empty; status alone in DRAINING and
DRAINED; refused with STATE in STOPPED (R162). -/
def Obligations.DrainClosesTheDoor : Prop :=
  ∀ s : State, s.live →
    (s.bridge.state = .running → s.drainCondition = false →
      exec .drain s =
        .next { s with
          bridge := { state := .draining, commandStatus := .ok }, answer := some (.done .nothing), sent := none }) ∧
    (s.bridge.state = .running → s.drainCondition = true →
      exec .drain s =
        .next { s with
          bridge := { state := .drained, commandStatus := .ok }
          events := { s.events with edges := s.events.edges ||| 0x200 }
          answer := some (.done .nothing), sent := none }) ∧
    (s.bridge.state = .draining ∨ s.bridge.state = .drained →
      exec .drain s =
        .next { s with
          bridge := { s.bridge with commandStatus := .ok }, answer := some (.done .nothing), sent := none }) ∧
    (s.bridge.state = .stopped →
      exec .drain s =
        .next { s with
          bridge := { s.bridge with commandStatus := .state }, answer := some (.done .nothing), sent := none })

/-- PURGE in DRAINING frees exactly the COMPLETE entries, counts each in DISCARDED, captures no error, raises no event but
DRAINED, and finishes the drain when that leaves the part empty; in DRAINED it sets the status alone, and in STOPPED and
RUNNING it is refused with STATE (R26, R164). -/
def Obligations.PurgeFreesExactlyTheCompleteEntries : Prop :=
  ∀ s : State, s.live →
    (s.bridge.state = .draining →
      ∃ t : State, exec .purge s = .next t ∧
        (∀ n : Fin 8, t.dtt.entry n = if s.completeAt n then none else s.dtt.entry n) ∧
        t.dtt.order = s.dtt.order.filter (fun n => !s.completeAt n) ∧
        t.events.counters =
          { s.events.counters with
            discarded :=
              if eight.countP s.completeAt = 0 then s.events.counters.discarded
              else min (s.events.counters.discarded + eight.countP s.completeAt) 65535 } ∧
        t.bridge =
          { state := if 0 < eight.countP s.completeAt ∧ t.drainCondition = true then .drained else .draining
            commandStatus := .ok } ∧
        t.events.edges =
          (if 0 < eight.countP s.completeAt ∧ t.drainCondition = true then s.events.edges ||| 0x200
            else s.events.edges) ∧
        t = { s with
          dtt := { t.dtt with discardTime := s.dtt.discardTime }
          bridge := t.bridge
          events := { s.events with counters := t.events.counters, edges := t.events.edges }
          answer := some (.done .nothing), sent := none }) ∧
    (s.bridge.state = .drained → (∀ n : Fin 8, s.dtt.entry n = none) →
      exec .purge s =
        .next { s with
          bridge := { s.bridge with commandStatus := .ok }, answer := some (.done .nothing), sent := none }) ∧
    (s.bridge.state = .stopped ∨ s.bridge.state = .running →
      exec .purge s =
        .next { s with
          bridge := { s.bridge with commandStatus := .state }, answer := some (.done .nothing), sent := none })

/-- STOP is taken in DRAINED and STOPPED, and refused with STATE in RUNNING and DRAINING; an access that matches no entry is
answered RETRY before a STOP from DRAINED and FAULT with NOT-STARTED after it. Where the part is empty in STOPPED and DRAINED,
which EveryStepKeepsTheStateSound says of every sound state, a STOP that is taken finds every entry FREE and the PWQ empty
(R159, R165). -/
def Obligations.StopTakenOnlyWhenNothingIsInside : Prop :=
  ∀ s : State, s.live →
    (s.bridge.state = .drained ∨ s.bridge.state = .stopped →
      exec .stop s =
        .next { s with
          bridge := { state := .stopped, commandStatus := .ok }, answer := some (.done .nothing), sent := none }) ∧
    (s.bridge.state = .running ∨ s.bridge.state = .draining →
      exec .stop s =
        .next { s with
          bridge := { s.bridge with commandStatus := .state }, answer := some (.done .nothing), sent := none }) ∧
    (∀ (t : State) (a : Access), s.bridge.state = .drained → exec .stop s = .next t → a.wellFormed = true →
      s.unmatched a →
      exec (.windowSelectAccess a) s = .next { s with answer := some .retry, sent := none } ∧
      exec (.windowSelectAccess a) t =
        .next { captureError
            { kind := .notStarted, source := .localAccess, requester := some a.requester, address := some a.address,
              window := none, slot := none, targetAddr := none } t with
          answer := some .fault, sent := none }) ∧
    ∀ t : State, s.emptyWhenOff → exec .stop s = .next t → t.bridge.commandStatus = .ok →
      (∀ n : Fin 8, s.dtt.entry n = none) ∧ s.pwq.items = []

/-- GO takes a PAUSED or ONLINE port ONLINE and PAUSE takes it PAUSED, each with status OK, in every bridge state; in DOWN
both are refused with RACK-DOWN (R109, R110). -/
def Obligations.GoAndPauseMoveThePort : Prop :=
  ∀ s : State, s.live →
    (s.rack.state ≠ .down →
      exec .go s =
        .next { s with
          rack := { s.rack with state := .online }, bridge := { s.bridge with commandStatus := .ok }
          answer := some (.done .nothing), sent := none } ∧
      exec .pause s =
        .next { s with
          rack := { s.rack with state := .paused }, bridge := { s.bridge with commandStatus := .ok }
          answer := some (.done .nothing), sent := none }) ∧
    (s.rack.state = .down →
      exec .go s =
        .next { s with
          bridge := { s.bridge with commandStatus := .rackDown }, answer := some (.done .nothing), sent := none } ∧
      exec .pause s =
        .next { s with
          bridge := { s.bridge with commandStatus := .rackDown }, answer := some (.done .nothing), sent := none })

/-- A notice in DRAINING with every entry FREE and the PWQ empty enters DRAINED and raises DRAINED; in any other case it
changes nothing (R163). That the row ENTER_DRAINED is such a notice, reaching the controller by itself, is the model's reading
(assumption 5). -/
def Obligations.NoticeFinishesADrain : Prop :=
  ∀ s : State, s.live →
    (s.bridge.state = .draining → (∀ n : Fin 8, s.dtt.entry n = none) → s.pwq.items = [] →
      exec .enterDrained s =
        .next { s with
          bridge := { s.bridge with state := .drained }
          events := { s.events with edges := s.events.edges ||| 0x200 }, answer := none, sent := none }) ∧
    ((s.bridge.state ≠ .draining ∨ (∃ n : Fin 8, (s.dtt.entry n).isSome = true) ∨ s.pwq.items ≠ []) →
      exec .enterDrained s = .next { s with answer := none, sent := none })

/-! ## Windows -/

/-- COMMIT n installs the staging record whole with status OK when its size code, step and bases are legal, and otherwise
sets the status of the first check that fails; an index above 15 is refused with BAD-INDEX by each window command (R62 to
R64). -/
def Obligations.CommitIsJudgedAndWhole : Prop :=
  (∀ (s : State) (n : BitVec 8) (h : n.toNat < 16), s.live →
    let g := s.windows.staging
    let status (c : WindowStatus) : State :=
      { s with windows := { s.windows with status := c }, answer := some (.done .nothing), sent := none }
    ((g.sizeCode.toNat < 12 ∨ 30 < g.sizeCode.toNat) → exec (.commit n) s = .next (status .badSize)) ∧
    (12 ≤ g.sizeCode.toNat → g.sizeCode.toNat ≤ 30 → g.step = 0 → exec (.commit n) s = .next (status .badSize)) ∧
    (12 ≤ g.sizeCode.toNat → g.sizeCode.toNat ≤ 30 → g.step ≠ 0 →
      (g.localBase.toNat % 2 ^ g.sizeCode.toNat ≠ 0 ∨ g.targetBase.toNat % 2 ^ g.sizeCode.toNat ≠ 0) →
      exec (.commit n) s = .next (status .badAlign)) ∧
    (12 ≤ g.sizeCode.toNat → g.sizeCode.toNat ≤ 30 → g.step ≠ 0 →
      g.localBase.toNat % 2 ^ g.sizeCode.toNat = 0 → g.targetBase.toNat % 2 ^ g.sizeCode.toNat = 0 →
      exec (.commit n) s =
        .next { s with
          windows := { s.windows with entries := s.windows.entries.set n.toNat g h, status := .ok }
          answer := some (.done .nothing), sent := none })) ∧
  ∀ (s : State) (n : BitVec 8) (c : Instr), s.live → 16 ≤ n.toNat → (c = .commit n ∨ c = .load n ∨ c = .disable n) →
    exec c s =
      .next { s with windows := { s.windows with status := .badIndex }, answer := some (.done .nothing), sent := none }

/-- LOAD n copies entry n into the staging record and leaves the table; DISABLE n clears entry n's enable, keeps its other
fields and leaves the staging record; both set status OK (R65, R66). -/
def Obligations.LoadCopiesAndDisableKeepsFields : Prop :=
  ∀ (s : State) (n : BitVec 8) (h : n.toNat < 16), s.live →
    exec (.load n) s =
      .next { s with
        windows := { s.windows with staging := s.windows.entries.get ⟨n.toNat, h⟩, status := .ok }
        answer := some (.done .nothing), sent := none } ∧
    exec (.disable n) s =
      .next { s with
        windows := { s.windows with
          entries := s.windows.entries.set n.toNat { s.windows.entries.get ⟨n.toNat, h⟩ with enable := false } h
          status := .ok }
        answer := some (.done .nothing), sent := none }

/-- A write to a staging word sets exactly the fields of that word, unchecked, write-mode code 3 taken as READ-ONLY, and a
read of the word afterwards returns them (R61, R189). -/
def Obligations.StagingWriteSetsExactlyItsWord : Prop :=
  ∀ (s : State) (w : Word), s.live →
    let after (g : Window) : State :=
      { s with windows := { s.windows with staging := g }, answer := some (.done .nothing), sent := none }
    let g := s.windows.staging
    exec (.stagingWrite .enable w) s = .next (after { g with enable := w.getLsbD 0 }) ∧
    exec (.stagingWrite .localBase w) s = .next (after { g with localBase := w }) ∧
    exec (.stagingWrite .sizeCode w) s = .next (after { g with sizeCode := w.extractLsb' 0 5 }) ∧
    exec (.stagingWrite .targetSlot w) s = .next (after { g with slot := w.extractLsb' 0 4 }) ∧
    exec (.stagingWrite .targetBase w) s = .next (after { g with targetBase := w }) ∧
    exec (.stagingWrite .attributes w) s =
      .next (after { g with
        mode := match (w.extractLsb' 0 2).toNat with
          | 0 => .posted
          | 1 => .confirmed
          | _ => .readOnly
        exchange := w.getLsbD 4, budget := w.extractLsb' 8 4, step := w.extractLsb' 16 8 }) ∧
    ∀ f : StagingReg, ∃ t : State, exec (.stagingWrite f w) s = .next t ∧
      readReg t (.staging f) = (match f with
        | .enable => w &&& 0x1
        | .localBase => w
        | .sizeCode => w &&& 0x1F
        | .targetSlot => w &&& 0xF
        | .targetBase => w
        | .attributes => if w &&& 0x3 = 0x3 then (w &&& 0x00FF0F10) ||| 0x2 else w &&& 0x00FF0F13)

/-! ## Messages -/

/-- SEND is decided by its checks in order: a refusal sets the send status and changes nothing else, and QUEUED appends a
MESSAGE item under MSG_BUDGET and MSG_STEP with the first length ÷ 4 payload words (R38, R39). -/
def Obligations.SendIsDecidedByItsChecks : Prop :=
  ∀ s : State, s.live →
    let c := s.compose
    let status (v : SendStatus) : State :=
      { s with compose := { c with sendStatus := v }, answer := some (.done .nothing), sent := none }
    (s.bridge.state ≠ .running → exec .send s = .next (status .state)) ∧
    (s.bridge.state = .running → s.rack.state = .down → exec .send s = .next (status .rackDown)) ∧
    (s.bridge.state = .running → s.rack.state ≠ .down → c.destination = s.rack.ownSlot →
      exec .send s = .next (status .self)) ∧
    (s.bridge.state = .running → s.rack.state ≠ .down → c.destination ≠ s.rack.ownSlot →
      (c.length.toNat % 4 ≠ 0 ∨ c.length.toNat < 4 ∨ 32 < c.length.toNat) →
      exec .send s = .next (status .badLength)) ∧
    (s.bridge.state = .running → s.rack.state ≠ .down → c.destination ≠ s.rack.ownSlot →
      c.length.toNat % 4 = 0 → 4 ≤ c.length.toNat → c.length.toNat ≤ 32 →
      (32 ≤ s.pwq.items.length → exec .send s = .next (status .full)) ∧
      (s.pwq.items.length < 32 →
        exec .send s =
          .next { s with
            pwq := { s.pwq with
              items := s.pwq.items ++
                [{ kind := .message, slot := c.destination
                   data := (c.payload.toList.take (c.length.toNat / 4)).flatMap fun w =>
                     [w.extractLsb' 24 8, w.extractLsb' 16 8, w.extractLsb' 8 8, w.extractLsb' 0 8]
                   budget := c.msgBudget, step := c.msgStep, attempts := 0
                   cond := if s.pwq.items = [] then .ready else .queued }] }
            arbiter := { s.arbiter with
              ready := if s.pwq.items = [] then s.arbiter.ready ++ [.posted] else s.arbiter.ready }
            compose := { c with sendStatus := .queued }
            answer := some (.done .nothing), sent := none }))

/-- A write to a compose register sets its field as written, unchecked, and a write to the message retry register sets
MSG_BUDGET and MSG_STEP, a step of 0 taken as 1 (R37, R40, R192). -/
def Obligations.ComposeAndRetryWritesSetTheirFields : Prop :=
  ∀ (s : State) (w : Word), s.live →
    let after (c : Compose) : State := { s with compose := c, answer := some (.done .nothing), sent := none }
    exec (.composeWrite .destination w) s = .next (after { s.compose with destination := w.extractLsb' 0 4 }) ∧
    exec (.composeWrite .length w) s = .next (after { s.compose with length := w.extractLsb' 0 8 }) ∧
    (∀ k : Fin 8, exec (.composeWrite (.payload k) w) s =
      .next (after { s.compose with payload := s.compose.payload.set k.val w k.isLt })) ∧
    exec (.msgRetryWrite w) s =
      .next (after { s.compose with
        msgBudget := w.extractLsb' 0 4
        msgStep := if w.extractLsb' 8 8 = 0 then 1 else w.extractLsb' 8 8 })

/-- The payload words of a composed message, read as the receiving part's head view reads them, are the words composed, and
the words beyond its length read 0 (R153, R194). -/
def Obligations.ComposedWordsReadBackWordForWord : Prop :=
  ∀ (c : Compose) (k : Fin 8), goodLength c.length.toNat = true →
    (composedItem c).data.length = c.length.toNat ∧
    payloadWord (composedItem c).data k.val = if 4 * k.val < c.length.toNat then c.payload.get k else 0

/-- POP removes the head, lowers its sender's count and sets status OK; on an empty queue it sets EMPTY alone (R154). A write
of the IMQ control sets the enable and the clamped quota and leaves the messages (R147, R152). -/
def Obligations.PopRemovesTheHead : Prop :=
  (∀ (s : State) (m : Message) (rest : List Message), s.live → s.imq.messages = m :: rest →
    exec .pop s =
      .next { s with
        imq := { s.imq with
          messages := rest
          counts := s.imq.counts.set m.sender.toNat (s.imq.counts.get m.sender.toFin - 1) m.sender.isLt
          status := .ok }
        answer := some (.done .nothing), sent := none }) ∧
  (∀ s : State, s.live → s.imq.messages = [] →
    exec .pop s =
      .next { s with imq := { s.imq with status := .empty }, answer := some (.done .nothing), sent := none }) ∧
  ∀ (s : State) (w : Word), s.live →
    exec (.imqControlWrite w) s =
      .next { s with
        imq := { s.imq with
          enable := w.getLsbD 0
          quota :=
            if (w.extractLsb' 8 6).toNat = 0 then 1 else if 32 < (w.extractLsb' 8 6).toNat then 32
            else w.extractLsb' 8 6 }
        answer := some (.done .nothing), sent := none }

/-! ## The event unit and the settings -/

/-- An error fills an empty record and raises ERROR; with a record held it only raises the overflow count, up to 255; ERRCLR
empties the record and leaves every event (R178, R179). -/
def Obligations.ErrorCaptureKeepsTheFirst : Prop :=
  (∀ (s : State) (i : ErrorInfo), s.events.capture = none →
    captureError i s =
      { s with
        events := { s.events with
          capture := some { error := i, overflow := 0 }, edges := s.events.edges ||| 0x400 } }) ∧
  (∀ (s : State) (i : ErrorInfo) (h : Held), s.events.capture = some h →
    captureError i s =
      { s with events := { s.events with capture := some { h with overflow := min (h.overflow + 1) 255 } } }) ∧
  ∀ s : State, s.live →
    exec .errclr s =
      .next { s with
        events := { s.events with capture := none }, answer := some (.done .nothing), sent := none }

/-- A write of the event-pending register clears, of the ten edge events, those whose bit is written as 1, leaves MSG to the
IMQ, and changes nothing else; a read of the register shows all eleven (R172). -/
def Obligations.PendingWriteClearsTheWrittenEdges : Prop :=
  (∀ (s : State) (w : Word), s.live →
    ∃ t : State, exec (.eventPendingClear w) s = .next t ∧
      (∀ e : Event, t.isPending e =
        if e = .msg then decide (s.imq.messages ≠ []) else (s.isPending e && !w.getLsbD e.bit)) ∧
      t = { s with
        events := { s.events with edges := t.events.edges }, answer := some (.done .nothing), sent := none }) ∧
  ∀ (s : State) (e : Event), (readReg s .eventPending).getLsbD e.bit = s.isPending e

/-- A write of the event-enable register sets all eleven enables and keeps every pending state, a read returns them, and INT
is asserted exactly while some event is pending and enabled (R174). -/
def Obligations.EnableWriteSetsEveryEnableAndInt : Prop :=
  (∀ (s : State) (w : Word), s.live →
    exec (.eventEnableWrite w) s =
      .next { s with
        events := { s.events with enable := w.extractLsb' 0 11 }, answer := some (.done .nothing), sent := none }) ∧
  (∀ s : State, readReg s .eventEnable = s.events.enable.setWidth 32) ∧
  ∀ s : State, s.interrupt = true ↔ ∃ e : Event, s.isPending e = true ∧ s.events.enable.getLsbD e.bit = true

/-- A write to a counter clears it and no other, and leaves every event and the error record (R182). -/
def Obligations.CounterWriteClearsThatCounter : Prop :=
  ∀ (s : State) (c : CounterId), s.live →
    ∃ t : State, exec (.counterClear c) s = .next t ∧
      (∀ d : CounterId, t.events.counters.get d = if d = c then 0 else s.events.counters.get d) ∧
      t = { s with
        events := { s.events with counters := t.events.counters }, answer := some (.done .nothing), sent := none }

/-- Writes to ISSUE_CAP, RESP_TIMEOUT, DISCARD_TIME and TIMEBASE set the value taken and nothing else: running timers, cells
in flight and the tick in progress are as they were (R18, R20, R88, R90, R96, R123, R185). -/
def Obligations.SettingsTakeTheNearestLegalValue : Prop :=
  ∀ (s : State) (w : Word), s.live →
    exec (.issueCapWrite w) s =
      .next { s with
        arbiter := { s.arbiter with
          issueCap :=
            if (w.extractLsb' 0 3).toNat = 0 then 1 else if 4 < (w.extractLsb' 0 3).toNat then 4
            else w.extractLsb' 0 3 }
        answer := some (.done .nothing), sent := none } ∧
    exec (.respTimeoutWrite w) s =
      .next { s with
        arbiter := { s.arbiter with respTimeout := if w.extractLsb' 0 8 = 0 then 1 else w.extractLsb' 0 8 }
        answer := some (.done .nothing), sent := none } ∧
    exec (.discardTimeWrite w) s =
      .next { s with
        dtt := { s.dtt with
          discardTime :=
            if (w.extractLsb' 0 5).toNat = 0 then 0 else if (w.extractLsb' 0 5).toNat ≤ 5 then 6
            else if 17 ≤ (w.extractLsb' 0 5).toNat then 16 else w.extractLsb' 0 5 }
        answer := some (.done .nothing), sent := none } ∧
    exec (.timebaseWrite w) s =
      .next { s with
        time := { s.time with timebase := if w.extractLsb' 0 8 = 0 then 1 else w.extractLsb' 0 8 }
        answer := some (.done .nothing), sent := none }

/-! ## The issue arbiter -/

/-- ISSUE with the port ONLINE and a slot free under ISSUE_CAP sends the front of the ready list: it leaves the list, its
generation counter rises by 1, a record with a deadline of RESP_TIMEOUT × 16 ticks joins the in-flight set, its owner
becomes ISSUED or IN-FLIGHT with one attempt more, up to 15, and the request cell with its fields goes out. With one of the
three conditions missing, nothing happens (R9, R42, R89, R92, R94 to R96). -/
def Obligations.IssueSendsTheFront : Prop :=
  (∀ (s : State) (n : Fin 8) (e : Entry) (rest : List Origin), s.live → s.rack.state = .online →
    s.arbiter.inFlight.length < s.arbiter.issueCap.toNat → s.arbiter.ready = .dtt n :: rest → s.dtt.entry n = some e →
    let gen := s.arbiter.generations.get n.castSucc + 1
    let kind : CellKind := match e.kind with
      | .read => .read
      | .cwrite => .write
      | .exchange => .exchange
    exec .issue s =
      .next { s with
        dtt := { s.dtt with
          entries := s.dtt.entries.set n.val (some { e with attempts := min (e.attempts + 1) 15, phase := .issued }) n.isLt }
        arbiter := { s.arbiter with
          ready := rest
          generations := s.arbiter.generations.set n.castSucc.val gen n.castSucc.isLt
          inFlight := s.arbiter.inFlight ++
            [{ origin := .dtt n, gen := gen, kind := kind, size := e.size, left := s.arbiter.respTimeout.toNat * 16 }] }
        answer := none
        sent := some (requestFrame s.rack.ownSlot (.dtt n) gen
          { kind := kind, dest := e.slot, address := e.targetAddr, count := e.size
            payload := if e.kind = .read then [] else e.data }) }) ∧
  (∀ (s : State) (h : Item) (tl : List Item) (rest : List Origin), s.live → s.rack.state = .online →
    s.arbiter.inFlight.length < s.arbiter.issueCap.toNat → s.arbiter.ready = .posted :: rest → s.pwq.items = h :: tl →
    let gen := s.arbiter.generations.get 8 + 1
    let kind : CellKind := match h.kind with
      | .write _ _ _ _ => .write
      | .message => .message
    let address : Addr := match h.kind with
      | .write _ _ _ targetAddr => targetAddr
      | .message => 0
    exec .issue s =
      .next { s with
        pwq := { s.pwq with items := { h with attempts := min (h.attempts + 1) 15, cond := .inFlight } :: tl }
        arbiter := { s.arbiter with
          ready := rest
          generations := s.arbiter.generations.set 8 gen (by decide)
          inFlight := s.arbiter.inFlight ++
            [{ origin := .posted, gen := gen, kind := kind, size := h.data.length
               left := s.arbiter.respTimeout.toNat * 16 }] }
        answer := none
        sent := some (requestFrame s.rack.ownSlot .posted gen
          { kind := kind, dest := h.slot, address := address, count := h.data.length, payload := h.data }) }) ∧
  ∀ s : State, s.live →
    (s.arbiter.ready = [] ∨ s.rack.state ≠ .online ∨ s.arbiter.issueCap.toNat ≤ s.arbiter.inFlight.length) →
    exec .issue s = .next { s with answer := none, sent := none }

/-- A kept RESPONSE whose tag matches a record is classified by the table of R98 and its outcome handed to the record's
origin, the record removed; one whose tag matches no record is a stray: STRAY counted and raised, and nothing else (R98,
R99, R120). -/
def Obligations.ResponseIsMatchedByItsTagAlone : Prop :=
  (∀ (f : List Byte) (s : State) (r : InFlight), s.live → s.keeps f → frameType f = 2 →
    (s.arbiter.inFlight.map InFlight.origin).Nodup → r ∈ s.arbiter.inFlight →
    r.origin.number = frameOrigin f → r.gen = frameGen f →
    let freed : State := { s with
      arbiter := { s.arbiter with inFlight := s.arbiter.inFlight.filter fun q => q.origin ≠ r.origin }
      answer := none, sent := none }
    let returns : Prop := r.kind = .read ∨ r.kind = .exchange
    let p := framePayload f
    (frameCode f = 0 → returns → p.length = r.size →
      exec (.cellReception f) s = .next (handOutcome r.origin (.accept p) freed)) ∧
    (frameCode f = 0 → returns → p.length ≠ r.size →
      exec (.cellReception f) s = .next (handOutcome r.origin .malformed freed)) ∧
    (frameCode f = 0 → ¬ returns → p = [] →
      exec (.cellReception f) s = .next (handOutcome r.origin (.accept []) freed)) ∧
    (frameCode f = 0 → ¬ returns → p ≠ [] →
      exec (.cellReception f) s = .next (handOutcome r.origin .malformed freed)) ∧
    (frameCode f = 1 → p = [] → exec (.cellReception f) s = .next (handOutcome r.origin .busy freed)) ∧
    (frameCode f = 2 → p = [] → exec (.cellReception f) s = .next (handOutcome r.origin .reject freed)) ∧
    (frameCode f = 1 ∨ frameCode f = 2 → p ≠ [] →
      exec (.cellReception f) s = .next (handOutcome r.origin .malformed freed)) ∧
    (3 ≤ (frameCode f).toNat → exec (.cellReception f) s = .next (handOutcome r.origin .malformed freed))) ∧
  ∀ (f : List Byte) (s : State), s.live → s.keeps f → frameType f = 2 →
    (∀ r ∈ s.arbiter.inFlight, ¬ (r.origin.number = frameOrigin f ∧ r.gen = frameGen f)) →
    exec (.cellReception f) s =
      .next { s with
        events := { s.events with
          edges := s.events.edges ||| 0x020
          counters := { s.events.counters with stray := min (s.events.counters.stray + 1) 65535 } }
        answer := none, sent := none }

/-- A final outcome for an ISSUED entry makes it COMPLETE with its result and starts the discard timer; ACCEPT brings the
read data, none for a CWRITE, and a failure captures one error of its kind with the entry's fields (R10, R11, R19). -/
def Obligations.FinalOutcomeCompletesTheEntry : Prop :=
  ∀ (s : State) (n : Fin 8) (e : Entry), s.dtt.entry n = some e → e.phase = .issued →
    let completed (r : TxnResult) : State := { s with
      dtt := { s.dtt with
        entries := s.dtt.entries.set n.val (some { e with phase := .complete r s.freshDiscard }) n.isLt } }
    let error (k : ErrorKind) : ErrorInfo :=
      { kind := k, source := .dttEntry n, requester := some e.requester, address := some e.address
        window := some e.window, slot := some e.slot, targetAddr := some e.targetAddr }
    (∀ data, handOutcome (.dtt n) (.accept data) s = completed (.ok (if e.kind = .cwrite then [] else data))) ∧
    handOutcome (.dtt n) .reject s = captureError (error .rejected) (completed .rejected) ∧
    handOutcome (.dtt n) .noAnswer s = captureError (error .noAnswer) (completed .noAnswer) ∧
    handOutcome (.dtt n) .malformed s = captureError (error .malformed) (completed .malformed)

/-- A final outcome for a head IN-FLIGHT retires it: silently on ACCEPT, and on a failure after DROPPED, DROP and one captured
error of its kind with the item's fields (R43, R45). -/
def Obligations.FinalOutcomeRetiresTheHead : Prop :=
  ∀ (s : State) (h : Item) (tl : List Item), s.pwq.items = h :: tl → h.cond = .inFlight →
    let dropped : State := { s with
      events := { s.events with
        edges := s.events.edges ||| 0x010
        counters := { s.events.counters with dropped := min (s.events.counters.dropped + 1) 65535 } } }
    let error (k : ErrorKind) : ErrorInfo := match h.kind with
      | .write window requester address targetAddr =>
        { kind := k, source := .postedWrite, requester := some requester, address := some address
          window := some window, slot := some h.slot, targetAddr := some targetAddr }
      | .message =>
        { kind := k, source := .message, requester := none, address := none, window := none, slot := some h.slot
          targetAddr := none }
    (∀ data, handOutcome .posted (.accept data) s = retire s) ∧
    handOutcome .posted .reject s = retire (captureError (error .rejected) dropped) ∧
    handOutcome .posted .noAnswer s = retire (captureError (error .noAnswer) dropped) ∧
    handOutcome .posted .malformed s = retire (captureError (error .malformed) dropped)

/-- BUSY is counted in BUSY-SEEN; with no limit or fewer attempts than the budget, the entry or the head is
deferred for step × attempts ticks, at most 4095, and at the budget it ends as EXHAUSTED: the entry COMPLETE with its error,
the head dropped with its error (R12, R44, R130, R131, R133). -/
def Obligations.BusyDefersOrExhausts : Prop :=
  (∀ (s : State) (n : Fin 8) (e : Entry), s.dtt.entry n = some e → e.phase = .issued →
    let counted : State := { s with
      events := { s.events with
        counters := { s.events.counters with busySeen := min (s.events.counters.busySeen + 1) 65535 } } }
    ((e.budget = 0 ∨ e.attempts < e.budget.toNat) →
      handOutcome (.dtt n) .busy s =
        { counted with
          dtt := { s.dtt with
            entries := s.dtt.entries.set n.val
              (some { e with phase := .deferred (min (e.step.toNat * e.attempts) 4095) }) n.isLt } }) ∧
    (e.budget ≠ 0 → e.attempts = e.budget.toNat →
      handOutcome (.dtt n) .busy s =
        captureError
          { kind := .exhausted, source := .dttEntry n, requester := some e.requester, address := some e.address
            window := some e.window, slot := some e.slot, targetAddr := some e.targetAddr }
          { counted with
            dtt := { s.dtt with
              entries := s.dtt.entries.set n.val (some { e with phase := .complete .exhausted s.freshDiscard }) n.isLt } })) ∧
  ∀ (s : State) (h : Item) (tl : List Item), s.pwq.items = h :: tl → h.cond = .inFlight →
    let counters := { s.events.counters with busySeen := min (s.events.counters.busySeen + 1) 65535 }
    ((h.budget = 0 ∨ h.attempts < h.budget.toNat) →
      handOutcome .posted .busy s =
        { s with
          pwq := { s.pwq with items := { h with cond := .deferred (min (h.step.toNat * h.attempts) 4095) } :: tl }
          events := { s.events with counters := counters } }) ∧
    (h.budget ≠ 0 → h.attempts = h.budget.toNat →
      handOutcome .posted .busy s =
        retire (captureError
          (match h.kind with
            | .write window requester address targetAddr =>
              { kind := .exhausted, source := .postedWrite, requester := some requester, address := some address
                window := some window, slot := some h.slot, targetAddr := some targetAddr }
            | .message =>
              { kind := .exhausted, source := .message, requester := none, address := none, window := none
                slot := some h.slot, targetAddr := none })
          { s with
            events := { s.events with
              edges := s.events.edges ||| 0x010
              counters := { counters with dropped := min (s.events.counters.dropped + 1) 65535 } } }))

/-- A retirement takes the head away and makes the next item the READY head; every writes-ahead count above 0 falls by 1, and
the entries that reach 0 join the ready list in capture order, ahead of P; a queue left empty finishes a drain whose entries
are all FREE (R8, R33, R46, R163). That the drain finishes in the retirement's own step is the model's reading (assumption 5,
a notice taken in the step that sends it). -/
def Obligations.RetirementReleasesWaitersAheadOfTheLane : Prop :=
  ∀ (s : State) (h : Item) (tl : List Item), s.pwq.items = h :: tl →
    let finished : Prop := tl = [] ∧ s.bridge.state = .draining ∧ ∀ n : Fin 8, s.dtt.entry n = none
    (∀ n : Fin 8, (retire s).dtt.entry n =
      (s.dtt.entry n).map fun e =>
        match e.phase with
        | .waiting (k + 1) => { e with phase := .waiting k }
        | _ => e) ∧
    (retire s).pwq.items =
      (match tl with
        | [] => []
        | i :: rest => { i with cond := .ready } :: rest) ∧
    (retire s).arbiter.ready =
      s.arbiter.ready ++
        ((s.dtt.order.filter fun n => decide ((s.dtt.entry n).map Entry.phase = some (.waiting 1))).map .dtt ++
          if tl = [] then [] else [.posted]) ∧
    (finished → (retire s).bridge.state = .drained ∧ (retire s).events.edges = s.events.edges ||| 0x200) ∧
    (¬ finished → (retire s).bridge.state = s.bridge.state ∧ (retire s).events.edges = s.events.edges) ∧
    retire s = { s with
      dtt := { s.dtt with entries := (retire s).dtt.entries }
      pwq := (retire s).pwq
      arbiter := { s.arbiter with ready := (retire s).arbiter.ready }
      bridge := { s.bridge with state := (retire s).bridge.state }
      events := { s.events with edges := (retire s).events.edges } }

/-- A response timer that has run out removes its record and ends the attempt with NO-ANSWER: the entry COMPLETE with its
error, or the head dropped with its error. With no such timer the step does nothing (R11, R45, R97). That a due expiry is a
step of its own is the model's (assumption 7), and so is that an expiry with no such timer does nothing (assumption 8). -/
def Obligations.ResponseTimerExpiryGivesNoAnswer : Prop :=
  (∀ (s : State) (o : Origin) (r : InFlight), s.live → r ∈ s.arbiter.inFlight → r.origin = o → r.left = 0 →
    exec (.responseTimerExpiry o) s =
      .next (handOutcome o .noAnswer { s with
        arbiter := { s.arbiter with inFlight := s.arbiter.inFlight.filter fun q => q.origin ≠ o }
        answer := none, sent := none })) ∧
  ∀ (s : State) (o : Origin), s.live → (∀ r ∈ s.arbiter.inFlight, r.origin = o → r.left ≠ 0) →
    exec (.responseTimerExpiry o) s = .next { s with answer := none, sent := none }

/-! ## Reception -/

/-- In DOWN a cell changes nothing; in PAUSED and ONLINE a damaged one is counted in CELL-ERR and changes nothing else, and an
undamaged one for another slot changes nothing (R105, R118, R119). -/
def Obligations.ReceptionFiltersCells : Prop :=
  ∀ (f : List Byte) (s : State), s.live →
    (s.rack.state = .down → exec (.cellReception f) s = .next { s with answer := none, sent := none }) ∧
    (s.rack.state ≠ .down →
      (f.length < 6 ∨ 38 < f.length ∨
        checkCode (f.take (f.length - 2)) ≠ f.getD (f.length - 2) 0 ++ f.getD (f.length - 1) 0 ∨
        frameType f = 0 ∨ frameType f = 3 ∨ 32 < frameCount f ∨
        f.length ≠
          (if frameType f = 1 ∧ (frameCode f).toNat < 3 then 8 else 4) +
            (if frameType f = 1 ∧ frameCode f = 0 then 0 else frameCount f) + 2) →
      exec (.cellReception f) s =
        .next { s with
          events := { s.events with
            counters := { s.events.counters with cellErr := min (s.events.counters.cellErr + 1) 65535 } }
          answer := none, sent := none }) ∧
    (s.rack.state ≠ .down → damaged f = false → frameDest f ≠ s.rack.ownSlot →
      exec (.cellReception f) s = .next { s with answer := none, sent := none })

/-- A kept request that is no MESSAGE is answered REJECT to its source, its tag echoed, and changes nothing else (R117,
R121). -/
def Obligations.InboundRequestsOtherThanMessagesAreRejected : Prop :=
  ∀ (f : List Byte) (s : State), s.live → s.keeps f → frameType f = 1 → frameCode f ≠ 3 →
    exec (.cellReception f) s =
      .next { s with
        answer := none
        sent := some (responseFrame s.rack.ownSlot (frameSource f) (frameOrigin f) (frameGen f) .reject) }

/-- A kept MESSAGE is decided by the IMQ's checks in order and answered in the same step: REJECT when not enabled or of a bad
length, BUSY at the sender's quota or with 32 messages held, else stored at the tail with the next sequence number and
ACCEPT; a refusal counts and raises IMQ-REFUSED (R121, R149 to R151). -/
def Obligations.ArrivalIsDecidedByTheQueue : Prop :=
  ∀ (f : List Byte) (s : State), s.live → s.keeps f → frameType f = 1 → frameCode f = 3 →
    let p := framePayload f
    let sender := frameSource f
    let answered (a : TargetAnswer) (t : State) : State :=
      { t with answer := none, sent := some (responseFrame s.rack.ownSlot sender (frameOrigin f) (frameGen f) a) }
    let refused : State := { s with
      events := { s.events with
        edges := s.events.edges ||| 0x002
        counters := { s.events.counters with imqRefused := min (s.events.counters.imqRefused + 1) 65535 } } }
    (s.imq.enable = false ∨ p.length % 4 ≠ 0 ∨ p.length < 4 ∨ 32 < p.length →
      exec (.cellReception f) s = .next (answered .reject refused)) ∧
    (s.imq.enable = true → p.length % 4 = 0 → 4 ≤ p.length → p.length ≤ 32 →
      (s.imq.quota.toNat ≤ s.imq.counts.get sender.toFin ∨ 32 ≤ s.imq.messages.length →
        exec (.cellReception f) s = .next (answered .busy refused)) ∧
      (s.imq.counts.get sender.toFin < s.imq.quota.toNat → s.imq.messages.length < 32 →
        exec (.cellReception f) s =
          .next (answered .accept { s with
            imq := { s.imq with
              messages := s.imq.messages ++ [{ sender := sender, payload := p, sequence := s.imq.sequence }]
              sequence := s.imq.sequence + 1
              counts := s.imq.counts.set sender.toNat (s.imq.counts.get sender.toFin + 1) sender.isLt } })))

/-! ## Cells -/

/-- The bytes of a cell: the type with the kind or answer, the two slots, the tag, the count, the address where there is one
and the payload, each most significant byte first, then the check code of all of them (R95, R115 to R117). -/
def Obligations.CellsCarryTheirFieldsInTheirBytes : Prop :=
  (∀ (own : Slot) (o : Origin) (gen : BitVec 4) (r : Request),
    let body : List Byte :=
      [BitVec.ofNat 8 (0x40 + 8 * (match r.kind with
          | .read => 0
          | .write => 1
          | .exchange => 2
          | .message => 3)),
        BitVec.ofNat 8 (16 * own.toNat + r.dest.toNat),
        BitVec.ofNat 8 (16 * (match o with
          | .dtt n => n.val
          | .posted => 8) + gen.toNat),
        BitVec.ofNat 8 r.count] ++
      (if r.kind = .message then []
        else [BitVec.ofNat 8 (r.address.toNat / 2 ^ 24), BitVec.ofNat 8 (r.address.toNat / 2 ^ 16),
          BitVec.ofNat 8 (r.address.toNat / 2 ^ 8), BitVec.ofNat 8 r.address.toNat]) ++ r.payload
    requestFrame own o gen r =
      body ++ [BitVec.ofNat 8 ((checkCode body).toNat / 256), BitVec.ofNat 8 (checkCode body).toNat]) ∧
  ∀ (own dest : Slot) (origin gen : BitVec 4) (a : TargetAnswer),
    let body : List Byte :=
      [BitVec.ofNat 8 (0x80 + 8 * (match a with
          | .accept => 0
          | .busy => 1
          | .reject => 2)),
        BitVec.ofNat 8 (16 * own.toNat + dest.toNat), BitVec.ofNat 8 (16 * origin.toNat + gen.toNat), 0]
    responseFrame own dest origin gen a =
      body ++ [BitVec.ofNat 8 ((checkCode body).toNat / 256), BitVec.ofNat 8 (checkCode body).toNat]

/-- The check computation over a whole cell, check code included, ends with the register at 0, and the nine bytes 0x31 to
0x39 give 0x29B1 (R116). -/
def Obligations.CheckCodeLeavesNoResidue : Prop :=
  (∀ bs : List Byte, checkCode (withCheckCode bs) = 0) ∧
    checkCode [0x31, 0x32, 0x33, 0x34, 0x35, 0x36, 0x37, 0x38, 0x39] = 0x29B1

/-- Every cell the part can send passes the reception check and reads back field by field: a READ with its size, a WRITE or
EXCHANGE with up to 8 data bytes, a MESSAGE with up to 32, and a response (R95, R114 to R118). -/
def Obligations.SentCellsReadBackFieldByField : Prop :=
  (∀ (own : Slot) (o : Origin) (gen : BitVec 4) (r : Request),
    (r.kind = .read → r.payload = [] ∧ r.count ≤ 8) →
    (r.kind = .write ∨ r.kind = .exchange → r.count = r.payload.length ∧ r.payload.length ≤ 8) →
    (r.kind = .message → r.count = r.payload.length ∧ r.payload.length ≤ 32) →
    let f := requestFrame own o gen r
    damaged f = false ∧ frameType f = 1 ∧ frameCode f = r.kind.code ∧ frameSource f = own ∧ frameDest f = r.dest ∧
      frameOrigin f = o.number ∧ frameGen f = gen ∧ frameCount f = r.count ∧ framePayload f = r.payload ∧
      (r.kind ≠ .message → frameAddress f = r.address)) ∧
  ∀ (own dest : Slot) (origin gen : BitVec 4) (a : TargetAnswer),
    let f := responseFrame own dest origin gen a
    damaged f = false ∧ frameType f = 2 ∧ frameCode f = a.code ∧ frameSource f = own ∧ frameDest f = dest ∧
      frameOrigin f = origin ∧ frameGen f = gen ∧ frameCount f = 0 ∧ framePayload f = []

/-- A message crosses from one part to another: the sender's ISSUE puts a cell on the rack bus, the receiver's reception of it
stores the message with the sender's slot and answers, and the sender's reception of that answer retires the head and frees
its slot, with no counter moved (R39, R42, R43, R94, R98, R117 to R121, R150). -/
def Obligations.MessageCrossesTwoParts : Prop :=
  ∀ (s t : State) (h : Item) (tl : List Item) (rest : List Origin),
    s.live → s.rack.state = .online → s.arbiter.inFlight.length < s.arbiter.issueCap.toNat →
    s.arbiter.ready = .posted :: rest → s.pwq.items = h :: tl → (∀ r ∈ s.arbiter.inFlight, r.origin ≠ .posted) →
    h.kind = .message → goodLength h.data.length = true →
    t.live → t.rack.state ≠ .down → t.rack.ownSlot = h.slot → t.imq.enable = true →
    t.imq.counts.get s.rack.ownSlot.toFin < t.imq.quota.toNat → t.imq.messages.length < 32 →
    ∃ (s' t' s'' : State) (request response : List Byte),
      exec .issue s = .next s' ∧ s'.sent = some request ∧
      exec (.cellReception request) t = .next t' ∧ t'.sent = some response ∧
      t'.imq.messages =
        t.imq.messages ++ [{ sender := s.rack.ownSlot, payload := h.data, sequence := t.imq.sequence }] ∧
      exec (.cellReception response) s' = .next s'' ∧ s''.sent = none ∧
      s''.pwq.items =
        (match tl with
          | [] => []
          | i :: more => { i with cond := .ready } :: more) ∧
      s''.arbiter.inFlight = s.arbiter.inFlight ∧ s''.events.counters = s.events.counters

/-! ## Timers -/

/-- A deferral timer that has run out puts its entry back to WAITING with nothing ahead, or makes the head READY, and its
origin joins the tail of the ready list; with no such timer the step does nothing (R13, R33, R134). That a due expiry is a
step of its own is the model's (assumption 7), and so is that an expiry with no such timer does nothing (assumption 8). -/
def Obligations.DeferralExpiryRejoinsTheReadyList : Prop :=
  (∀ (s : State) (n : Fin 8) (e : Entry), s.live → s.dtt.entry n = some e → e.phase = .deferred 0 →
    exec (.deferralExpiry (.dtt n)) s =
      .next { s with
        dtt := { s.dtt with entries := s.dtt.entries.set n.val (some { e with phase := .waiting 0 }) n.isLt }
        arbiter := { s.arbiter with ready := s.arbiter.ready ++ [.dtt n] }
        answer := none, sent := none }) ∧
  (∀ (s : State) (h : Item) (tl : List Item), s.live → s.pwq.items = h :: tl → h.cond = .deferred 0 →
    exec (.deferralExpiry .posted) s =
      .next { s with
        pwq := { s.pwq with items := { h with cond := .ready } :: tl }
        arbiter := { s.arbiter with ready := s.arbiter.ready ++ [.posted] }
        answer := none, sent := none }) ∧
  (∀ (s : State) (n : Fin 8), s.live → (s.dtt.entry n).map Entry.phase ≠ some (.deferred 0) →
    exec (.deferralExpiry (.dtt n)) s = .next { s with answer := none, sent := none }) ∧
  ∀ s : State, s.live → s.pwq.items.head?.map Item.cond ≠ some (.deferred 0) →
    exec (.deferralExpiry .posted) s = .next { s with answer := none, sent := none }

/-- A discard timer that has run out frees its COMPLETE entry, counts it in DISCARDED and raises DISCARD, then sends the
notice; an OK result of a CWRITE or an EXCHANGE also raises LOST-RESULT and captures its error. With no such timer the step
does nothing (R21, R30). That the notice is taken in the expiry's own step is the model's reading (assumption 5), that a due
expiry is a step of its own is the model's (assumption 7), and so is that an expiry with no such timer does nothing
(assumption 8). -/
def Obligations.DiscardExpiryFreesTheEntry : Prop :=
  (∀ (s : State) (n : Fin 8) (e : Entry) (r : TxnResult), s.live → s.dtt.entry n = some e →
    e.phase = .complete r (some 0) →
    let freed (events : BitVec 11) : State := { s with
      dtt := { s.dtt with entries := s.dtt.entries.set n.val none n.isLt, order := s.dtt.order.filter (· ≠ n) }
      events := { s.events with
        edges := s.events.edges ||| events
        counters := { s.events.counters with discarded := min (s.events.counters.discarded + 1) 65535 } }
      answer := none, sent := none }
    ((∃ data, r = .ok data) → e.kind ≠ .read →
      exec (.discardExpiry n) s =
        .next (notice (captureError
          { kind := .lostResult, source := .dttEntry n, requester := some e.requester, address := some e.address
            window := some e.window, slot := some e.slot, targetAddr := some e.targetAddr }
          (freed 0x00C)))) ∧
    ((∀ data, r ≠ .ok data) ∨ e.kind = .read → exec (.discardExpiry n) s = .next (notice (freed 0x004)))) ∧
  ∀ (s : State) (n : Fin 8), s.live →
    (∀ e ∈ s.dtt.entry n, ∀ r, e.phase ≠ .complete r (some 0)) →
    exec (.discardExpiry n) s = .next { s with answer := none, sent := none }

/-- The end of a tick takes one tick off every running timer of the DTT, the PWQ and the arbiter, gives the next tick the
length TIMEBASE holds, adds the ended tick's length to the count of reference-clock periods, and changes nothing else (R123,
R124). A timer held as ticks left, which waits at 0 for its expiry, is the model's (assumption 7), and so is the count of
periods kept at the grain of whole ticks (assumption 12). -/
def Obligations.TickRunsEveryTimer : Prop :=
  ∀ s : State, s.live →
    ∃ t : State, exec .timeBaseTick s = .next t ∧
      (∀ n : Fin 8, t.dtt.entry n =
        (s.dtt.entry n).map fun e =>
          match e.phase with
          | .deferred (k + 1) => { e with phase := .deferred k }
          | .complete r (some (k + 1)) => { e with phase := .complete r (some k) }
          | _ => e) ∧
      t.pwq.items = s.pwq.items.map (fun i =>
        match i.cond with
        | .deferred (k + 1) => { i with cond := .deferred k }
        | _ => i) ∧
      t.arbiter.inFlight = s.arbiter.inFlight.map (fun r => { r with left := r.left - 1 }) ∧
      t = { s with
        dtt := { s.dtt with entries := t.dtt.entries }
        pwq := t.pwq
        arbiter := { s.arbiter with inFlight := t.arbiter.inFlight }
        time :=
          { timebase := s.time.timebase, tickLength := s.time.timebase
            refPeriods := s.time.refPeriods + s.time.tickLength.toNat }
        answer := none, sent := none }

/-! ## The reset lines -/

/-- RRST asserted on a released line enters DOWN whole: nothing ready or in flight, every WAITING, ISSUED and DEFERRED entry
COMPLETE with RACK-DOWN, the PWQ discarded with its counting, DROP and one error for the head, a drain finished by the empty
notice, RACK-DOWN raised, and nothing else changed (R23, R47, R102, R106, R168). That the empty notice is sent only by a PWQ
that held items is the model's reading of R47 and R168 (assumption 14), and that RRST_ASSERT on an asserted line changes
nothing is the model's (assumption 8). -/
def Obligations.RackResetEntersDown : Prop :=
  (∀ s : State, s.live → s.lines.rrst = false →
    let finished : Prop :=
      s.pwq.items ≠ [] ∧ s.bridge.state = .draining ∧ ∀ n : Fin 8, s.dtt.entry n = none
    ∃ t : State, exec .rrstAssert s = .next t ∧
      (∀ n : Fin 8, t.dtt.entry n =
        (s.dtt.entry n).map fun e =>
          if e.isComplete = true then e else { e with phase := .complete .rackDown s.freshDiscard }) ∧
      t.events.counters =
        { s.events.counters with
          dropped :=
            if s.pwq.items = [] then s.events.counters.dropped
            else min (s.events.counters.dropped + s.pwq.items.length) 65535 } ∧
      (s.pwq.items = [] → t.events.capture = s.events.capture) ∧
      (∀ h tl, s.pwq.items = h :: tl →
        t.events.capture =
          (captureError
            (match h.kind with
              | .write window requester address targetAddr =>
                { kind := .rackDown, source := .postedWrite, requester := some requester, address := some address
                  window := some window, slot := some h.slot, targetAddr := some targetAddr }
              | .message =>
                { kind := .rackDown, source := .message, requester := none, address := none, window := none
                  slot := some h.slot, targetAddr := none })
            s).events.capture) ∧
      (∀ v : Event, t.isPending v = true ↔
        (s.isPending v = true ∨ v = .rackDown ∨ (v = .drop ∧ s.pwq.items ≠ []) ∨
          (v = .error ∧ s.pwq.items ≠ [] ∧ s.events.capture = none) ∨ (v = .drained ∧ finished))) ∧
      (finished → t.bridge.state = .drained) ∧ (¬ finished → t.bridge.state = s.bridge.state) ∧
      t = { s with
        lines := { s.lines with rrst := true }
        rack := { s.rack with state := .down }
        dtt := { s.dtt with entries := t.dtt.entries }
        pwq := { s.pwq with items := [] }
        arbiter := { s.arbiter with ready := [], inFlight := [] }
        bridge := { s.bridge with state := t.bridge.state }
        events := { s.events with
          edges := t.events.edges, capture := t.events.capture, counters := t.events.counters }
        answer := none, sent := none }) ∧
  ∀ s : State, s.live → s.lines.rrst = true → exec .rrstAssert s = .next { s with answer := none, sent := none }

/-- RRST released from an asserted line takes the port to PAUSED, samples the own slot and raises RACK-UP. CRST released takes
the port DOWN with own slot 0 while RRST is asserted, and otherwise PAUSED with the slot sampled, with no event, and starts
a fresh count. A change of RRST under CRST is not acted on (R107, R108, R113, R123). That its level is followed then is the
model's reading (assumption 18), and that a release of a line that is released changes nothing is the model's (assumption
8). -/
def Obligations.ReleasesSampleTheSlot : Prop :=
  ∀ (s : State) (pins : Slot),
    (s.live → s.lines.rrst = true →
      exec (.rrstRelease pins) s =
        .next { s with
          lines := { s.lines with rrst := false }
          rack := { state := .paused, ownSlot := pins }
          events := { s.events with edges := s.events.edges ||| 0x100 }
          answer := none, sent := none }) ∧
    (s.live → s.lines.rrst = false → exec (.rrstRelease pins) s = .next { s with answer := none, sent := none }) ∧
    (s.lines.crst = true →
      exec (.rrstRelease pins) s =
        .next { s with lines := { s.lines with rrst := false }, answer := none, sent := none } ∧
      exec .rrstAssert s =
        .next { s with lines := { s.lines with rrst := true }, answer := none, sent := none } ∧
      exec (.crstRelease pins) s =
        .next { s with
          lines := { s.lines with crst := false }
          rack := if s.lines.rrst = true then { state := .down, ownSlot := 0 } else { state := .paused, ownSlot := pins }
          time := { s.time with tickLength := s.time.timebase, refPeriods := 0 }
          answer := none, sent := none }) ∧
    (s.live → exec (.crstRelease pins) s = .next { s with answer := none, sent := none })

/-- Card reset sets every block to the values its chapter gives, from any state, and with RRST asserted the release of CRST
then gives the reset state, the one of R108's two that State.reset is (assumption 1). That the port stands at DOWN with own
slot 0 while CRST is asserted is the model's (assumption 2), and so are the two outputs it empties (assumption 9). -/
def Obligations.CardResetSetsEveryBlock : Prop :=
  (∀ s : State,
    exec .cardReset s =
      .next {
        lines := { crst := true, rrst := s.lines.rrst }
        rack := { state := .down, ownSlot := 0 }
        bridge := { state := .stopped, commandStatus := .ok }
        dtt := { entries := Vector.replicate 8 none, order := [], discardTime := 12 }
        pwq := { items := [] }
        compose :=
          { destination := 0, length := 0, payload := Vector.replicate 8 0, sendStatus := .idle, msgBudget := 4
            msgStep := 16 }
        windows :=
          let w : Window :=
            { enable := false, localBase := 0, sizeCode := 0, slot := 0, targetBase := 0, mode := .posted
              exchange := false, budget := 0, step := 0 }
          { entries := Vector.replicate 16 w, staging := w, status := .ok }
        arbiter :=
          { ready := [], inFlight := [], generations := Vector.replicate 9 0, issueCap := 4, respTimeout := 64 }
        imq :=
          { messages := [], sequence := 0, counts := Vector.replicate 16 0, enable := false, quota := 8, status := .ok }
        events :=
          { edges := 0, enable := 0, capture := none
            counters :=
              { captureRefused := 0, postRefused := 0, busySeen := 0, stray := 0, discarded := 0, dropped := 0
                cellErr := 0, imqRefused := 0 } }
        time := { timebase := 25, tickLength := 25, refPeriods := 0 }
        answer := none
        sent := none
        pending := s.pending }) ∧
  ∀ (s t : State) (pins : Slot), s.lines.rrst = true → exec .cardReset s = .next t →
    exec (.crstRelease pins) t = .next { State.reset with pending := s.pending }
end

