-- ==== Sys2Proof/Laws/State.lean ====
section
/-! SUPPORT. One lemma for each field of State and each named update of it: what the update leaves there, true by rfl and
a simp lemma, so that no later proof unfolds an update. -/

namespace Sys2Proof.Machine

/-! ## State.reply -/

@[simp] theorem State.reply_lines (a : Answer) (s : State) : (s.reply a).lines = s.lines := rfl
@[simp] theorem State.reply_rack (a : Answer) (s : State) : (s.reply a).rack = s.rack := rfl
@[simp] theorem State.reply_bridge (a : Answer) (s : State) : (s.reply a).bridge = s.bridge := rfl
@[simp] theorem State.reply_dtt (a : Answer) (s : State) : (s.reply a).dtt = s.dtt := rfl
@[simp] theorem State.reply_pwq (a : Answer) (s : State) : (s.reply a).pwq = s.pwq := rfl
@[simp] theorem State.reply_compose (a : Answer) (s : State) : (s.reply a).compose = s.compose := rfl
@[simp] theorem State.reply_windows (a : Answer) (s : State) : (s.reply a).windows = s.windows := rfl
@[simp] theorem State.reply_arbiter (a : Answer) (s : State) : (s.reply a).arbiter = s.arbiter := rfl
@[simp] theorem State.reply_imq (a : Answer) (s : State) : (s.reply a).imq = s.imq := rfl
@[simp] theorem State.reply_events (a : Answer) (s : State) : (s.reply a).events = s.events := rfl
@[simp] theorem State.reply_time (a : Answer) (s : State) : (s.reply a).time = s.time := rfl
@[simp] theorem State.reply_answer (a : Answer) (s : State) : (s.reply a).answer = some a := rfl
@[simp] theorem State.reply_sent (a : Answer) (s : State) : (s.reply a).sent = none := rfl
@[simp] theorem State.reply_pending (a : Answer) (s : State) : (s.reply a).pending = s.pending := rfl

/-! ## State.quiet -/

@[simp] theorem State.quiet_lines (s : State) : s.quiet.lines = s.lines := rfl
@[simp] theorem State.quiet_rack (s : State) : s.quiet.rack = s.rack := rfl
@[simp] theorem State.quiet_bridge (s : State) : s.quiet.bridge = s.bridge := rfl
@[simp] theorem State.quiet_dtt (s : State) : s.quiet.dtt = s.dtt := rfl
@[simp] theorem State.quiet_pwq (s : State) : s.quiet.pwq = s.pwq := rfl
@[simp] theorem State.quiet_compose (s : State) : s.quiet.compose = s.compose := rfl
@[simp] theorem State.quiet_windows (s : State) : s.quiet.windows = s.windows := rfl
@[simp] theorem State.quiet_arbiter (s : State) : s.quiet.arbiter = s.arbiter := rfl
@[simp] theorem State.quiet_imq (s : State) : s.quiet.imq = s.imq := rfl
@[simp] theorem State.quiet_events (s : State) : s.quiet.events = s.events := rfl
@[simp] theorem State.quiet_time (s : State) : s.quiet.time = s.time := rfl
@[simp] theorem State.quiet_answer (s : State) : s.quiet.answer = none := rfl
@[simp] theorem State.quiet_sent (s : State) : s.quiet.sent = none := rfl
@[simp] theorem State.quiet_pending (s : State) : s.quiet.pending = s.pending := rfl

/-! ## raise -/

@[simp] theorem raise_lines (e : Event) (s : State) : (raise e s).lines = s.lines := rfl
@[simp] theorem raise_rack (e : Event) (s : State) : (raise e s).rack = s.rack := rfl
@[simp] theorem raise_bridge (e : Event) (s : State) : (raise e s).bridge = s.bridge := rfl
@[simp] theorem raise_dtt (e : Event) (s : State) : (raise e s).dtt = s.dtt := rfl
@[simp] theorem raise_pwq (e : Event) (s : State) : (raise e s).pwq = s.pwq := rfl
@[simp] theorem raise_compose (e : Event) (s : State) : (raise e s).compose = s.compose := rfl
@[simp] theorem raise_windows (e : Event) (s : State) : (raise e s).windows = s.windows := rfl
@[simp] theorem raise_arbiter (e : Event) (s : State) : (raise e s).arbiter = s.arbiter := rfl
@[simp] theorem raise_imq (e : Event) (s : State) : (raise e s).imq = s.imq := rfl
@[simp] theorem raise_events (e : Event) (s : State) :
    (raise e s).events =
      { s.events with edges := s.events.edges ||| e.mask } := rfl
@[simp] theorem raise_time (e : Event) (s : State) : (raise e s).time = s.time := rfl
@[simp] theorem raise_answer (e : Event) (s : State) : (raise e s).answer = s.answer := rfl
@[simp] theorem raise_sent (e : Event) (s : State) : (raise e s).sent = s.sent := rfl
@[simp] theorem raise_pending (e : Event) (s : State) : (raise e s).pending = s.pending := rfl

/-! ## clearEvents -/

@[simp] theorem clearEvents_lines (w : BitVec 11) (s : State) : (clearEvents w s).lines = s.lines := rfl
@[simp] theorem clearEvents_rack (w : BitVec 11) (s : State) : (clearEvents w s).rack = s.rack := rfl
@[simp] theorem clearEvents_bridge (w : BitVec 11) (s : State) : (clearEvents w s).bridge = s.bridge := rfl
@[simp] theorem clearEvents_dtt (w : BitVec 11) (s : State) : (clearEvents w s).dtt = s.dtt := rfl
@[simp] theorem clearEvents_pwq (w : BitVec 11) (s : State) : (clearEvents w s).pwq = s.pwq := rfl
@[simp] theorem clearEvents_compose (w : BitVec 11) (s : State) : (clearEvents w s).compose = s.compose := rfl
@[simp] theorem clearEvents_windows (w : BitVec 11) (s : State) : (clearEvents w s).windows = s.windows := rfl
@[simp] theorem clearEvents_arbiter (w : BitVec 11) (s : State) : (clearEvents w s).arbiter = s.arbiter := rfl
@[simp] theorem clearEvents_imq (w : BitVec 11) (s : State) : (clearEvents w s).imq = s.imq := rfl
@[simp] theorem clearEvents_events (w : BitVec 11) (s : State) :
    (clearEvents w s).events =
      { s.events with edges := s.events.edges &&& ~~~w } := rfl
@[simp] theorem clearEvents_time (w : BitVec 11) (s : State) : (clearEvents w s).time = s.time := rfl
@[simp] theorem clearEvents_answer (w : BitVec 11) (s : State) : (clearEvents w s).answer = s.answer := rfl
@[simp] theorem clearEvents_sent (w : BitVec 11) (s : State) : (clearEvents w s).sent = s.sent := rfl
@[simp] theorem clearEvents_pending (w : BitVec 11) (s : State) : (clearEvents w s).pending = s.pending := rfl

/-! ## bump -/

@[simp] theorem bump_lines (i : CounterId) (k : Nat) (s : State) : (bump i k s).lines = s.lines := rfl
@[simp] theorem bump_rack (i : CounterId) (k : Nat) (s : State) : (bump i k s).rack = s.rack := rfl
@[simp] theorem bump_bridge (i : CounterId) (k : Nat) (s : State) : (bump i k s).bridge = s.bridge := rfl
@[simp] theorem bump_dtt (i : CounterId) (k : Nat) (s : State) : (bump i k s).dtt = s.dtt := rfl
@[simp] theorem bump_pwq (i : CounterId) (k : Nat) (s : State) : (bump i k s).pwq = s.pwq := rfl
@[simp] theorem bump_compose (i : CounterId) (k : Nat) (s : State) : (bump i k s).compose = s.compose := rfl
@[simp] theorem bump_windows (i : CounterId) (k : Nat) (s : State) : (bump i k s).windows = s.windows := rfl
@[simp] theorem bump_arbiter (i : CounterId) (k : Nat) (s : State) : (bump i k s).arbiter = s.arbiter := rfl
@[simp] theorem bump_imq (i : CounterId) (k : Nat) (s : State) : (bump i k s).imq = s.imq := rfl
@[simp] theorem bump_events (i : CounterId) (k : Nat) (s : State) :
    (bump i k s).events =
      { s.events with counters := s.events.counters.put i (saturate (s.events.counters.get i) k) } := rfl
@[simp] theorem bump_time (i : CounterId) (k : Nat) (s : State) : (bump i k s).time = s.time := rfl
@[simp] theorem bump_answer (i : CounterId) (k : Nat) (s : State) : (bump i k s).answer = s.answer := rfl
@[simp] theorem bump_sent (i : CounterId) (k : Nat) (s : State) : (bump i k s).sent = s.sent := rfl
@[simp] theorem bump_pending (i : CounterId) (k : Nat) (s : State) : (bump i k s).pending = s.pending := rfl

/-! ## clearCounter -/

@[simp] theorem clearCounter_lines (i : CounterId) (s : State) : (clearCounter i s).lines = s.lines := rfl
@[simp] theorem clearCounter_rack (i : CounterId) (s : State) : (clearCounter i s).rack = s.rack := rfl
@[simp] theorem clearCounter_bridge (i : CounterId) (s : State) : (clearCounter i s).bridge = s.bridge := rfl
@[simp] theorem clearCounter_dtt (i : CounterId) (s : State) : (clearCounter i s).dtt = s.dtt := rfl
@[simp] theorem clearCounter_pwq (i : CounterId) (s : State) : (clearCounter i s).pwq = s.pwq := rfl
@[simp] theorem clearCounter_compose (i : CounterId) (s : State) : (clearCounter i s).compose = s.compose := rfl
@[simp] theorem clearCounter_windows (i : CounterId) (s : State) : (clearCounter i s).windows = s.windows := rfl
@[simp] theorem clearCounter_arbiter (i : CounterId) (s : State) : (clearCounter i s).arbiter = s.arbiter := rfl
@[simp] theorem clearCounter_imq (i : CounterId) (s : State) : (clearCounter i s).imq = s.imq := rfl
@[simp] theorem clearCounter_events (i : CounterId) (s : State) :
    (clearCounter i s).events =
      { s.events with counters := s.events.counters.put i 0 } := rfl
@[simp] theorem clearCounter_time (i : CounterId) (s : State) : (clearCounter i s).time = s.time := rfl
@[simp] theorem clearCounter_answer (i : CounterId) (s : State) : (clearCounter i s).answer = s.answer := rfl
@[simp] theorem clearCounter_sent (i : CounterId) (s : State) : (clearCounter i s).sent = s.sent := rfl
@[simp] theorem clearCounter_pending (i : CounterId) (s : State) : (clearCounter i s).pending = s.pending := rfl

/-! ## clearCapture -/

@[simp] theorem clearCapture_lines (s : State) : (clearCapture s).lines = s.lines := rfl
@[simp] theorem clearCapture_rack (s : State) : (clearCapture s).rack = s.rack := rfl
@[simp] theorem clearCapture_bridge (s : State) : (clearCapture s).bridge = s.bridge := rfl
@[simp] theorem clearCapture_dtt (s : State) : (clearCapture s).dtt = s.dtt := rfl
@[simp] theorem clearCapture_pwq (s : State) : (clearCapture s).pwq = s.pwq := rfl
@[simp] theorem clearCapture_compose (s : State) : (clearCapture s).compose = s.compose := rfl
@[simp] theorem clearCapture_windows (s : State) : (clearCapture s).windows = s.windows := rfl
@[simp] theorem clearCapture_arbiter (s : State) : (clearCapture s).arbiter = s.arbiter := rfl
@[simp] theorem clearCapture_imq (s : State) : (clearCapture s).imq = s.imq := rfl
@[simp] theorem clearCapture_events (s : State) : (clearCapture s).events = { s.events with capture := none } := rfl
@[simp] theorem clearCapture_time (s : State) : (clearCapture s).time = s.time := rfl
@[simp] theorem clearCapture_answer (s : State) : (clearCapture s).answer = s.answer := rfl
@[simp] theorem clearCapture_sent (s : State) : (clearCapture s).sent = s.sent := rfl
@[simp] theorem clearCapture_pending (s : State) : (clearCapture s).pending = s.pending := rfl

/-! ## enterDrainedState -/

@[simp] theorem enterDrainedState_lines (s : State) : (enterDrainedState s).lines = s.lines := rfl
@[simp] theorem enterDrainedState_rack (s : State) : (enterDrainedState s).rack = s.rack := rfl
@[simp] theorem enterDrainedState_bridge (s : State) :
    (enterDrainedState s).bridge =
      { s.bridge with state := .drained } := rfl
@[simp] theorem enterDrainedState_dtt (s : State) : (enterDrainedState s).dtt = s.dtt := rfl
@[simp] theorem enterDrainedState_pwq (s : State) : (enterDrainedState s).pwq = s.pwq := rfl
@[simp] theorem enterDrainedState_compose (s : State) : (enterDrainedState s).compose = s.compose := rfl
@[simp] theorem enterDrainedState_windows (s : State) : (enterDrainedState s).windows = s.windows := rfl
@[simp] theorem enterDrainedState_arbiter (s : State) : (enterDrainedState s).arbiter = s.arbiter := rfl
@[simp] theorem enterDrainedState_imq (s : State) : (enterDrainedState s).imq = s.imq := rfl
@[simp] theorem enterDrainedState_events (s : State) :
    (enterDrainedState s).events =
      { s.events with edges := s.events.edges ||| Event.drained.mask } := rfl
@[simp] theorem enterDrainedState_time (s : State) : (enterDrainedState s).time = s.time := rfl
@[simp] theorem enterDrainedState_answer (s : State) : (enterDrainedState s).answer = s.answer := rfl
@[simp] theorem enterDrainedState_sent (s : State) : (enterDrainedState s).sent = s.sent := rfl
@[simp] theorem enterDrainedState_pending (s : State) : (enterDrainedState s).pending = s.pending := rfl

/-! ## setEntry -/

@[simp] theorem setEntry_lines (n : Fin 8) (e : Option Entry) (s : State) : (setEntry n e s).lines = s.lines := rfl
@[simp] theorem setEntry_rack (n : Fin 8) (e : Option Entry) (s : State) : (setEntry n e s).rack = s.rack := rfl
@[simp] theorem setEntry_bridge (n : Fin 8) (e : Option Entry) (s : State) : (setEntry n e s).bridge = s.bridge := rfl
@[simp] theorem setEntry_dtt (n : Fin 8) (e : Option Entry) (s : State) :
    (setEntry n e s).dtt =
      { s.dtt with entries := s.dtt.entries.set n.val e n.isLt } := rfl
@[simp] theorem setEntry_pwq (n : Fin 8) (e : Option Entry) (s : State) : (setEntry n e s).pwq = s.pwq := rfl
@[simp] theorem setEntry_compose (n : Fin 8) (e : Option Entry) (s : State) :
    (setEntry n e s).compose =
      s.compose := rfl
@[simp] theorem setEntry_windows (n : Fin 8) (e : Option Entry) (s : State) :
    (setEntry n e s).windows =
      s.windows := rfl
@[simp] theorem setEntry_arbiter (n : Fin 8) (e : Option Entry) (s : State) :
    (setEntry n e s).arbiter =
      s.arbiter := rfl
@[simp] theorem setEntry_imq (n : Fin 8) (e : Option Entry) (s : State) : (setEntry n e s).imq = s.imq := rfl
@[simp] theorem setEntry_events (n : Fin 8) (e : Option Entry) (s : State) : (setEntry n e s).events = s.events := rfl
@[simp] theorem setEntry_time (n : Fin 8) (e : Option Entry) (s : State) : (setEntry n e s).time = s.time := rfl
@[simp] theorem setEntry_answer (n : Fin 8) (e : Option Entry) (s : State) : (setEntry n e s).answer = s.answer := rfl
@[simp] theorem setEntry_sent (n : Fin 8) (e : Option Entry) (s : State) : (setEntry n e s).sent = s.sent := rfl
@[simp] theorem setEntry_pending (n : Fin 8) (e : Option Entry) (s : State) :
    (setEntry n e s).pending =
      s.pending := rfl

/-! ## freeEntry -/

@[simp] theorem freeEntry_lines (n : Fin 8) (s : State) : (freeEntry n s).lines = s.lines := rfl
@[simp] theorem freeEntry_rack (n : Fin 8) (s : State) : (freeEntry n s).rack = s.rack := rfl
@[simp] theorem freeEntry_bridge (n : Fin 8) (s : State) : (freeEntry n s).bridge = s.bridge := rfl
@[simp] theorem freeEntry_dtt (n : Fin 8) (s : State) :
    (freeEntry n s).dtt =
      { s.dtt with
        entries := s.dtt.entries.set n.val none n.isLt
        order := s.dtt.order.filter (· ≠ n) } := rfl
@[simp] theorem freeEntry_pwq (n : Fin 8) (s : State) : (freeEntry n s).pwq = s.pwq := rfl
@[simp] theorem freeEntry_compose (n : Fin 8) (s : State) : (freeEntry n s).compose = s.compose := rfl
@[simp] theorem freeEntry_windows (n : Fin 8) (s : State) : (freeEntry n s).windows = s.windows := rfl
@[simp] theorem freeEntry_arbiter (n : Fin 8) (s : State) : (freeEntry n s).arbiter = s.arbiter := rfl
@[simp] theorem freeEntry_imq (n : Fin 8) (s : State) : (freeEntry n s).imq = s.imq := rfl
@[simp] theorem freeEntry_events (n : Fin 8) (s : State) : (freeEntry n s).events = s.events := rfl
@[simp] theorem freeEntry_time (n : Fin 8) (s : State) : (freeEntry n s).time = s.time := rfl
@[simp] theorem freeEntry_answer (n : Fin 8) (s : State) : (freeEntry n s).answer = s.answer := rfl
@[simp] theorem freeEntry_sent (n : Fin 8) (s : State) : (freeEntry n s).sent = s.sent := rfl
@[simp] theorem freeEntry_pending (n : Fin 8) (s : State) : (freeEntry n s).pending = s.pending := rfl

/-! ## join -/

@[simp] theorem join_lines (os : List Origin) (s : State) : (join os s).lines = s.lines := rfl
@[simp] theorem join_rack (os : List Origin) (s : State) : (join os s).rack = s.rack := rfl
@[simp] theorem join_bridge (os : List Origin) (s : State) : (join os s).bridge = s.bridge := rfl
@[simp] theorem join_dtt (os : List Origin) (s : State) : (join os s).dtt = s.dtt := rfl
@[simp] theorem join_pwq (os : List Origin) (s : State) : (join os s).pwq = s.pwq := rfl
@[simp] theorem join_compose (os : List Origin) (s : State) : (join os s).compose = s.compose := rfl
@[simp] theorem join_windows (os : List Origin) (s : State) : (join os s).windows = s.windows := rfl
@[simp] theorem join_arbiter (os : List Origin) (s : State) :
    (join os s).arbiter =
      { s.arbiter with ready := s.arbiter.ready ++ os } := rfl
@[simp] theorem join_imq (os : List Origin) (s : State) : (join os s).imq = s.imq := rfl
@[simp] theorem join_events (os : List Origin) (s : State) : (join os s).events = s.events := rfl
@[simp] theorem join_time (os : List Origin) (s : State) : (join os s).time = s.time := rfl
@[simp] theorem join_answer (os : List Origin) (s : State) : (join os s).answer = s.answer := rfl
@[simp] theorem join_sent (os : List Origin) (s : State) : (join os s).sent = s.sent := rfl
@[simp] theorem join_pending (os : List Origin) (s : State) : (join os s).pending = s.pending := rfl

/-! ## setHead -/

@[simp] theorem setHead_lines (h : Item) (s : State) : (setHead h s).lines = s.lines := rfl
@[simp] theorem setHead_rack (h : Item) (s : State) : (setHead h s).rack = s.rack := rfl
@[simp] theorem setHead_bridge (h : Item) (s : State) : (setHead h s).bridge = s.bridge := rfl
@[simp] theorem setHead_dtt (h : Item) (s : State) : (setHead h s).dtt = s.dtt := rfl
@[simp] theorem setHead_pwq (h : Item) (s : State) :
    (setHead h s).pwq =
      { s.pwq with items := h :: s.pwq.items.tail } := rfl
@[simp] theorem setHead_compose (h : Item) (s : State) : (setHead h s).compose = s.compose := rfl
@[simp] theorem setHead_windows (h : Item) (s : State) : (setHead h s).windows = s.windows := rfl
@[simp] theorem setHead_arbiter (h : Item) (s : State) : (setHead h s).arbiter = s.arbiter := rfl
@[simp] theorem setHead_imq (h : Item) (s : State) : (setHead h s).imq = s.imq := rfl
@[simp] theorem setHead_events (h : Item) (s : State) : (setHead h s).events = s.events := rfl
@[simp] theorem setHead_time (h : Item) (s : State) : (setHead h s).time = s.time := rfl
@[simp] theorem setHead_answer (h : Item) (s : State) : (setHead h s).answer = s.answer := rfl
@[simp] theorem setHead_sent (h : Item) (s : State) : (setHead h s).sent = s.sent := rfl
@[simp] theorem setHead_pending (h : Item) (s : State) : (setHead h s).pending = s.pending := rfl

/-! ## flushArbiter -/

@[simp] theorem flushArbiter_lines (s : State) : (flushArbiter s).lines = s.lines := rfl
@[simp] theorem flushArbiter_rack (s : State) : (flushArbiter s).rack = s.rack := rfl
@[simp] theorem flushArbiter_bridge (s : State) : (flushArbiter s).bridge = s.bridge := rfl
@[simp] theorem flushArbiter_dtt (s : State) : (flushArbiter s).dtt = s.dtt := rfl
@[simp] theorem flushArbiter_pwq (s : State) : (flushArbiter s).pwq = s.pwq := rfl
@[simp] theorem flushArbiter_compose (s : State) : (flushArbiter s).compose = s.compose := rfl
@[simp] theorem flushArbiter_windows (s : State) : (flushArbiter s).windows = s.windows := rfl
@[simp] theorem flushArbiter_arbiter (s : State) :
    (flushArbiter s).arbiter =
      { s.arbiter with ready := [], inFlight := [] } := rfl
@[simp] theorem flushArbiter_imq (s : State) : (flushArbiter s).imq = s.imq := rfl
@[simp] theorem flushArbiter_events (s : State) : (flushArbiter s).events = s.events := rfl
@[simp] theorem flushArbiter_time (s : State) : (flushArbiter s).time = s.time := rfl
@[simp] theorem flushArbiter_answer (s : State) : (flushArbiter s).answer = s.answer := rfl
@[simp] theorem flushArbiter_sent (s : State) : (flushArbiter s).sent = s.sent := rfl
@[simp] theorem flushArbiter_pending (s : State) : (flushArbiter s).pending = s.pending := rfl

/-! ## completeRackDown -/

@[simp] theorem completeRackDown_lines (s : State) : (completeRackDown s).lines = s.lines := rfl
@[simp] theorem completeRackDown_rack (s : State) : (completeRackDown s).rack = s.rack := rfl
@[simp] theorem completeRackDown_bridge (s : State) : (completeRackDown s).bridge = s.bridge := rfl
@[simp] theorem completeRackDown_dtt (s : State) :
    (completeRackDown s).dtt =
      { s.dtt with entries := mapEntries (Entry.rackDown s.dtt.discardTime) s.dtt.entries } := rfl
@[simp] theorem completeRackDown_pwq (s : State) : (completeRackDown s).pwq = s.pwq := rfl
@[simp] theorem completeRackDown_compose (s : State) : (completeRackDown s).compose = s.compose := rfl
@[simp] theorem completeRackDown_windows (s : State) : (completeRackDown s).windows = s.windows := rfl
@[simp] theorem completeRackDown_arbiter (s : State) : (completeRackDown s).arbiter = s.arbiter := rfl
@[simp] theorem completeRackDown_imq (s : State) : (completeRackDown s).imq = s.imq := rfl
@[simp] theorem completeRackDown_events (s : State) : (completeRackDown s).events = s.events := rfl
@[simp] theorem completeRackDown_time (s : State) : (completeRackDown s).time = s.time := rfl
@[simp] theorem completeRackDown_answer (s : State) : (completeRackDown s).answer = s.answer := rfl
@[simp] theorem completeRackDown_sent (s : State) : (completeRackDown s).sent = s.sent := rfl
@[simp] theorem completeRackDown_pending (s : State) : (completeRackDown s).pending = s.pending := rfl

/-! ## removeRecord -/

@[simp] theorem removeRecord_lines (o : Origin) (s : State) : (removeRecord o s).lines = s.lines := rfl
@[simp] theorem removeRecord_rack (o : Origin) (s : State) : (removeRecord o s).rack = s.rack := rfl
@[simp] theorem removeRecord_bridge (o : Origin) (s : State) : (removeRecord o s).bridge = s.bridge := rfl
@[simp] theorem removeRecord_dtt (o : Origin) (s : State) : (removeRecord o s).dtt = s.dtt := rfl
@[simp] theorem removeRecord_pwq (o : Origin) (s : State) : (removeRecord o s).pwq = s.pwq := rfl
@[simp] theorem removeRecord_compose (o : Origin) (s : State) : (removeRecord o s).compose = s.compose := rfl
@[simp] theorem removeRecord_windows (o : Origin) (s : State) : (removeRecord o s).windows = s.windows := rfl
@[simp] theorem removeRecord_arbiter (o : Origin) (s : State) :
    (removeRecord o s).arbiter =
      { s.arbiter with inFlight := s.arbiter.inFlight.filter fun r => r.origin ≠ o } := rfl
@[simp] theorem removeRecord_imq (o : Origin) (s : State) : (removeRecord o s).imq = s.imq := rfl
@[simp] theorem removeRecord_events (o : Origin) (s : State) : (removeRecord o s).events = s.events := rfl
@[simp] theorem removeRecord_time (o : Origin) (s : State) : (removeRecord o s).time = s.time := rfl
@[simp] theorem removeRecord_answer (o : Origin) (s : State) : (removeRecord o s).answer = s.answer := rfl
@[simp] theorem removeRecord_sent (o : Origin) (s : State) : (removeRecord o s).sent = s.sent := rfl
@[simp] theorem removeRecord_pending (o : Origin) (s : State) : (removeRecord o s).pending = s.pending := rfl

/-! ## setStatus -/

@[simp] theorem setStatus_lines (c : CommandStatus) (s : State) : (setStatus c s).lines = s.lines := rfl
@[simp] theorem setStatus_rack (c : CommandStatus) (s : State) : (setStatus c s).rack = s.rack := rfl
@[simp] theorem setStatus_bridge (c : CommandStatus) (s : State) :
    (setStatus c s).bridge =
      { s.bridge with commandStatus := c } := rfl
@[simp] theorem setStatus_dtt (c : CommandStatus) (s : State) : (setStatus c s).dtt = s.dtt := rfl
@[simp] theorem setStatus_pwq (c : CommandStatus) (s : State) : (setStatus c s).pwq = s.pwq := rfl
@[simp] theorem setStatus_compose (c : CommandStatus) (s : State) : (setStatus c s).compose = s.compose := rfl
@[simp] theorem setStatus_windows (c : CommandStatus) (s : State) : (setStatus c s).windows = s.windows := rfl
@[simp] theorem setStatus_arbiter (c : CommandStatus) (s : State) : (setStatus c s).arbiter = s.arbiter := rfl
@[simp] theorem setStatus_imq (c : CommandStatus) (s : State) : (setStatus c s).imq = s.imq := rfl
@[simp] theorem setStatus_events (c : CommandStatus) (s : State) : (setStatus c s).events = s.events := rfl
@[simp] theorem setStatus_time (c : CommandStatus) (s : State) : (setStatus c s).time = s.time := rfl
@[simp] theorem setStatus_answer (c : CommandStatus) (s : State) : (setStatus c s).answer = s.answer := rfl
@[simp] theorem setStatus_sent (c : CommandStatus) (s : State) : (setStatus c s).sent = s.sent := rfl
@[simp] theorem setStatus_pending (c : CommandStatus) (s : State) : (setStatus c s).pending = s.pending := rfl

/-! ## setBridge -/

@[simp] theorem setBridge_lines (b : BridgeState) (s : State) : (setBridge b s).lines = s.lines := rfl
@[simp] theorem setBridge_rack (b : BridgeState) (s : State) : (setBridge b s).rack = s.rack := rfl
@[simp] theorem setBridge_bridge (b : BridgeState) (s : State) :
    (setBridge b s).bridge =
      { state := b, commandStatus := .ok } := rfl
@[simp] theorem setBridge_dtt (b : BridgeState) (s : State) : (setBridge b s).dtt = s.dtt := rfl
@[simp] theorem setBridge_pwq (b : BridgeState) (s : State) : (setBridge b s).pwq = s.pwq := rfl
@[simp] theorem setBridge_compose (b : BridgeState) (s : State) : (setBridge b s).compose = s.compose := rfl
@[simp] theorem setBridge_windows (b : BridgeState) (s : State) : (setBridge b s).windows = s.windows := rfl
@[simp] theorem setBridge_arbiter (b : BridgeState) (s : State) : (setBridge b s).arbiter = s.arbiter := rfl
@[simp] theorem setBridge_imq (b : BridgeState) (s : State) : (setBridge b s).imq = s.imq := rfl
@[simp] theorem setBridge_events (b : BridgeState) (s : State) : (setBridge b s).events = s.events := rfl
@[simp] theorem setBridge_time (b : BridgeState) (s : State) : (setBridge b s).time = s.time := rfl
@[simp] theorem setBridge_answer (b : BridgeState) (s : State) : (setBridge b s).answer = s.answer := rfl
@[simp] theorem setBridge_sent (b : BridgeState) (s : State) : (setBridge b s).sent = s.sent := rfl
@[simp] theorem setBridge_pending (b : BridgeState) (s : State) : (setBridge b s).pending = s.pending := rfl

/-! ## setWindowStatus -/

@[simp] theorem setWindowStatus_lines (c : WindowStatus) (s : State) : (setWindowStatus c s).lines = s.lines := rfl
@[simp] theorem setWindowStatus_rack (c : WindowStatus) (s : State) : (setWindowStatus c s).rack = s.rack := rfl
@[simp] theorem setWindowStatus_bridge (c : WindowStatus) (s : State) : (setWindowStatus c s).bridge = s.bridge := rfl
@[simp] theorem setWindowStatus_dtt (c : WindowStatus) (s : State) : (setWindowStatus c s).dtt = s.dtt := rfl
@[simp] theorem setWindowStatus_pwq (c : WindowStatus) (s : State) : (setWindowStatus c s).pwq = s.pwq := rfl
@[simp] theorem setWindowStatus_compose (c : WindowStatus) (s : State) :
    (setWindowStatus c s).compose =
      s.compose := rfl
@[simp] theorem setWindowStatus_windows (c : WindowStatus) (s : State) :
    (setWindowStatus c s).windows =
      { s.windows with status := c } := rfl
@[simp] theorem setWindowStatus_arbiter (c : WindowStatus) (s : State) :
    (setWindowStatus c s).arbiter =
      s.arbiter := rfl
@[simp] theorem setWindowStatus_imq (c : WindowStatus) (s : State) : (setWindowStatus c s).imq = s.imq := rfl
@[simp] theorem setWindowStatus_events (c : WindowStatus) (s : State) : (setWindowStatus c s).events = s.events := rfl
@[simp] theorem setWindowStatus_time (c : WindowStatus) (s : State) : (setWindowStatus c s).time = s.time := rfl
@[simp] theorem setWindowStatus_answer (c : WindowStatus) (s : State) : (setWindowStatus c s).answer = s.answer := rfl
@[simp] theorem setWindowStatus_sent (c : WindowStatus) (s : State) : (setWindowStatus c s).sent = s.sent := rfl
@[simp] theorem setWindowStatus_pending (c : WindowStatus) (s : State) :
    (setWindowStatus c s).pending =
      s.pending := rfl

/-! ## setWindow -/

@[simp] theorem setWindow_lines (n : Fin 16) (w : Window) (s : State) : (setWindow n w s).lines = s.lines := rfl
@[simp] theorem setWindow_rack (n : Fin 16) (w : Window) (s : State) : (setWindow n w s).rack = s.rack := rfl
@[simp] theorem setWindow_bridge (n : Fin 16) (w : Window) (s : State) : (setWindow n w s).bridge = s.bridge := rfl
@[simp] theorem setWindow_dtt (n : Fin 16) (w : Window) (s : State) : (setWindow n w s).dtt = s.dtt := rfl
@[simp] theorem setWindow_pwq (n : Fin 16) (w : Window) (s : State) : (setWindow n w s).pwq = s.pwq := rfl
@[simp] theorem setWindow_compose (n : Fin 16) (w : Window) (s : State) : (setWindow n w s).compose = s.compose := rfl
@[simp] theorem setWindow_windows (n : Fin 16) (w : Window) (s : State) :
    (setWindow n w s).windows =
      { s.windows with entries := s.windows.entries.set n.val w n.isLt } := rfl
@[simp] theorem setWindow_arbiter (n : Fin 16) (w : Window) (s : State) : (setWindow n w s).arbiter = s.arbiter := rfl
@[simp] theorem setWindow_imq (n : Fin 16) (w : Window) (s : State) : (setWindow n w s).imq = s.imq := rfl
@[simp] theorem setWindow_events (n : Fin 16) (w : Window) (s : State) : (setWindow n w s).events = s.events := rfl
@[simp] theorem setWindow_time (n : Fin 16) (w : Window) (s : State) : (setWindow n w s).time = s.time := rfl
@[simp] theorem setWindow_answer (n : Fin 16) (w : Window) (s : State) : (setWindow n w s).answer = s.answer := rfl
@[simp] theorem setWindow_sent (n : Fin 16) (w : Window) (s : State) : (setWindow n w s).sent = s.sent := rfl
@[simp] theorem setWindow_pending (n : Fin 16) (w : Window) (s : State) : (setWindow n w s).pending = s.pending := rfl

/-! ## setStaging -/

@[simp] theorem setStaging_lines (w : Window) (s : State) : (setStaging w s).lines = s.lines := rfl
@[simp] theorem setStaging_rack (w : Window) (s : State) : (setStaging w s).rack = s.rack := rfl
@[simp] theorem setStaging_bridge (w : Window) (s : State) : (setStaging w s).bridge = s.bridge := rfl
@[simp] theorem setStaging_dtt (w : Window) (s : State) : (setStaging w s).dtt = s.dtt := rfl
@[simp] theorem setStaging_pwq (w : Window) (s : State) : (setStaging w s).pwq = s.pwq := rfl
@[simp] theorem setStaging_compose (w : Window) (s : State) : (setStaging w s).compose = s.compose := rfl
@[simp] theorem setStaging_windows (w : Window) (s : State) :
    (setStaging w s).windows =
      { s.windows with staging := w } := rfl
@[simp] theorem setStaging_arbiter (w : Window) (s : State) : (setStaging w s).arbiter = s.arbiter := rfl
@[simp] theorem setStaging_imq (w : Window) (s : State) : (setStaging w s).imq = s.imq := rfl
@[simp] theorem setStaging_events (w : Window) (s : State) : (setStaging w s).events = s.events := rfl
@[simp] theorem setStaging_time (w : Window) (s : State) : (setStaging w s).time = s.time := rfl
@[simp] theorem setStaging_answer (w : Window) (s : State) : (setStaging w s).answer = s.answer := rfl
@[simp] theorem setStaging_sent (w : Window) (s : State) : (setStaging w s).sent = s.sent := rfl
@[simp] theorem setStaging_pending (w : Window) (s : State) : (setStaging w s).pending = s.pending := rfl

/-! ## setSendStatus -/

@[simp] theorem setSendStatus_lines (c : SendStatus) (s : State) : (setSendStatus c s).lines = s.lines := rfl
@[simp] theorem setSendStatus_rack (c : SendStatus) (s : State) : (setSendStatus c s).rack = s.rack := rfl
@[simp] theorem setSendStatus_bridge (c : SendStatus) (s : State) : (setSendStatus c s).bridge = s.bridge := rfl
@[simp] theorem setSendStatus_dtt (c : SendStatus) (s : State) : (setSendStatus c s).dtt = s.dtt := rfl
@[simp] theorem setSendStatus_pwq (c : SendStatus) (s : State) : (setSendStatus c s).pwq = s.pwq := rfl
@[simp] theorem setSendStatus_compose (c : SendStatus) (s : State) :
    (setSendStatus c s).compose =
      { s.compose with sendStatus := c } := rfl
@[simp] theorem setSendStatus_windows (c : SendStatus) (s : State) : (setSendStatus c s).windows = s.windows := rfl
@[simp] theorem setSendStatus_arbiter (c : SendStatus) (s : State) : (setSendStatus c s).arbiter = s.arbiter := rfl
@[simp] theorem setSendStatus_imq (c : SendStatus) (s : State) : (setSendStatus c s).imq = s.imq := rfl
@[simp] theorem setSendStatus_events (c : SendStatus) (s : State) : (setSendStatus c s).events = s.events := rfl
@[simp] theorem setSendStatus_time (c : SendStatus) (s : State) : (setSendStatus c s).time = s.time := rfl
@[simp] theorem setSendStatus_answer (c : SendStatus) (s : State) : (setSendStatus c s).answer = s.answer := rfl
@[simp] theorem setSendStatus_sent (c : SendStatus) (s : State) : (setSendStatus c s).sent = s.sent := rfl
@[simp] theorem setSendStatus_pending (c : SendStatus) (s : State) : (setSendStatus c s).pending = s.pending := rfl

/-! ## setRrst -/

@[simp] theorem setRrst_lines (level : Bool) (s : State) :
    (setRrst level s).lines =
      { s.lines with rrst := level } := rfl
@[simp] theorem setRrst_rack (level : Bool) (s : State) : (setRrst level s).rack = s.rack := rfl
@[simp] theorem setRrst_bridge (level : Bool) (s : State) : (setRrst level s).bridge = s.bridge := rfl
@[simp] theorem setRrst_dtt (level : Bool) (s : State) : (setRrst level s).dtt = s.dtt := rfl
@[simp] theorem setRrst_pwq (level : Bool) (s : State) : (setRrst level s).pwq = s.pwq := rfl
@[simp] theorem setRrst_compose (level : Bool) (s : State) : (setRrst level s).compose = s.compose := rfl
@[simp] theorem setRrst_windows (level : Bool) (s : State) : (setRrst level s).windows = s.windows := rfl
@[simp] theorem setRrst_arbiter (level : Bool) (s : State) : (setRrst level s).arbiter = s.arbiter := rfl
@[simp] theorem setRrst_imq (level : Bool) (s : State) : (setRrst level s).imq = s.imq := rfl
@[simp] theorem setRrst_events (level : Bool) (s : State) : (setRrst level s).events = s.events := rfl
@[simp] theorem setRrst_time (level : Bool) (s : State) : (setRrst level s).time = s.time := rfl
@[simp] theorem setRrst_answer (level : Bool) (s : State) : (setRrst level s).answer = s.answer := rfl
@[simp] theorem setRrst_sent (level : Bool) (s : State) : (setRrst level s).sent = s.sent := rfl
@[simp] theorem setRrst_pending (level : Bool) (s : State) : (setRrst level s).pending = s.pending := rfl

end Sys2Proof.Machine
end

