-- ==== Sys2Proof/Laws/Ops.lean ====
section
/-! SUPPORT. For each operation that several commands share, what it can do, said once: the three kinds of step, the notice,
the error capture, DTT entries, the parts of a retirement, the outcomes, matching, capture and lookup, and the fields of a
register word. -/

namespace Sys2Proof.Machine

/-! ## The kinds of step -/

/-- A register write with CRST released has its effect and is answered DONE. -/
theorem registerStep_live (effect : State → State) {s : State} (h : s.live) :
    registerStep effect s = .next ((effect s).reply (.done .nothing)) := by
  simp [registerStep, show s.lines.crst = false from h]

/-- A register write with CRST asserted is answered RETRY and has no effect. -/
theorem registerStep_crst (effect : State → State) {s : State} (h : s.lines.crst = true) :
    registerStep effect s = .next (s.reply .retry) := by
  simp [registerStep, h]

/-- A step of the part's own with CRST released has its effect on the state without outputs. -/
theorem blockStep_live (effect : State → State) {s : State} (h : s.live) :
    blockStep effect s = .next (effect s.quiet) := by
  simp [blockStep, show s.lines.crst = false from h]

/-- A step of the part's own with CRST asserted has no effect. -/
theorem blockStep_crst (effect : State → State) {s : State} (h : s.lines.crst = true) :
    blockStep effect s = .next s.quiet := by
  simp [blockStep, h]

/-- An access with CRST released has its effect. -/
theorem localStep_live (effect : State → State) {s : State} (h : s.live) : localStep effect s = .next (effect s) := by
  simp [localStep, show s.lines.crst = false from h]

/-- An access with CRST asserted is answered RETRY and has no effect. -/
theorem localStep_crst (effect : State → State) {s : State} (h : s.lines.crst = true) :
    localStep effect s = .next (s.reply .retry) := by
  simp [localStep, h]

/-- What a register write can lead to. -/
theorem registerStep_cases {effect : State → State} {s t : State} (h : registerStep effect s = .next t) :
    (s.lines.crst = true ∧ t = s.reply .retry) ∨ (s.live ∧ t = (effect s).reply (.done .nothing)) := by
  cases hc : s.lines.crst
  · right; rw [registerStep_live _ hc] at h; exact ⟨hc, (Host.Outcome.next.inj h).symm⟩
  · left; rw [registerStep_crst _ hc] at h; exact ⟨rfl, (Host.Outcome.next.inj h).symm⟩

/-- What a step of the part's own can lead to. -/
theorem blockStep_cases {effect : State → State} {s t : State} (h : blockStep effect s = .next t) :
    (s.lines.crst = true ∧ t = s.quiet) ∨ (s.live ∧ t = effect s.quiet) := by
  cases hc : s.lines.crst
  · right; rw [blockStep_live _ hc] at h; exact ⟨hc, (Host.Outcome.next.inj h).symm⟩
  · left; rw [blockStep_crst _ hc] at h; exact ⟨rfl, (Host.Outcome.next.inj h).symm⟩

/-- What an access can lead to. -/
theorem localStep_cases {effect : State → State} {s t : State} (h : localStep effect s = .next t) :
    (s.lines.crst = true ∧ t = s.reply .retry) ∨ (s.live ∧ t = effect s) := by
  cases hc : s.lines.crst
  · right; rw [localStep_live _ hc] at h; exact ⟨hc, (Host.Outcome.next.inj h).symm⟩
  · left; rw [localStep_crst _ hc] at h; exact ⟨rfl, (Host.Outcome.next.inj h).symm⟩

/-! ## DTT entries -/

/-- Setting entry n sets that entry and no other. -/
@[simp] theorem entry_setEntry (n m : Fin 8) (e : Option Entry) (s : State) :
    (setEntry n e s).dtt.entry m = if n = m then e else s.dtt.entry m := by
  simp [Dtt.entry, setEntry, Vector.get, Vector.set, Array.getElem_set, Fin.ext_iff]
  rfl

/-- Freeing entry n frees that entry and no other. -/
@[simp] theorem entry_freeEntry (n m : Fin 8) (s : State) :
    (freeEntry n s).dtt.entry m = if n = m then none else s.dtt.entry m := by
  simp [Dtt.entry, freeEntry, Vector.get, Vector.set, Array.getElem_set, Fin.ext_iff]
  rfl

/-- A change of every entry changes each by itself. -/
@[simp] theorem get_mapEntries (f : Entry → Entry) (v : Vector (Option Entry) 8) (n : Fin 8) :
    (mapEntries f v).get n = (v.get n).map f := by
  simp [mapEntries, Vector.get]
  rfl

/-- Two tables with the same eight entries hold the same vector. -/
theorem entries_ext {v w : Vector (Option Entry) 8} (h : ∀ n : Fin 8, v.get n = w.get n) : v = w := by
  apply Vector.ext
  intro i hi
  simpa [Vector.get] using h ⟨i, hi⟩

/-- Every index is one of the eight. -/
theorem mem_eight (n : Fin 8) : n ∈ eight := by
  revert n; decide

/-- The occupancy is 0 exactly when every entry is FREE (R29). -/
theorem occupancy_eq_zero (d : Dtt) : d.occupancy = 0 ↔ ∀ n : Fin 8, d.entry n = none := by
  unfold Dtt.occupancy Dtt.entry
  rw [List.countP_eq_zero]
  constructor
  · intro h n
    have := h (d.entries.get n) (by rw [Vector.mem_toList_iff]; exact Vector.getElem_mem n.isLt)
    simpa using this
  · intro h x hx
    rw [Vector.mem_toList_iff] at hx
    obtain ⟨i, hi, rfl⟩ := Vector.getElem_of_mem hx
    have := h ⟨i, hi⟩
    simp [Vector.get] at this ⊢
    exact this

/-- The occupancy counts the entries that are not FREE, index by index (R29). -/
theorem occupancy_eq_countP (d : Dtt) : d.occupancy = eight.countP fun n => (d.entry n).isSome := by
  rcases d with ⟨⟨⟨l⟩, hl⟩, order, discardTime⟩
  match l, hl with
  | [_, _, _, _, _, _, _, _], _ => rfl

/-! ## The fields of a register word -/

/-- A sum that starts at acc is acc and the sum that starts at 0. -/
theorem foldl_fields (fs : List (Nat × Nat)) (acc : Nat) :
    fs.foldl (fun a f => a + f.2 * 2 ^ f.1) acc = acc + fs.foldl (fun a f => a + f.2 * 2 ^ f.1) 0 := by
  induction fs generalizing acc with
  | nil => rfl
  | cons f fs ih => rw [List.foldl_cons, List.foldl_cons, ih, ih (0 + _), Nat.zero_add, Nat.add_assoc]

@[simp] theorem fields_nil : fields [] = 0 := rfl

/-- A word of fields is the sum of its fields. Unfolding `fields` instead makes the kernel compute with the powers of 2. -/
theorem fields_cons (k n : Nat) (fs : List (Nat × Nat)) :
    fields ((k, n) :: fs) = BitVec.ofNat 32 (n * 2 ^ k) + fields fs := by
  unfold fields
  rw [List.foldl_cons, foldl_fields, Nat.zero_add, BitVec.ofNat_add]

/-- A word of one field at bit 0 is its number. -/
@[simp] theorem fields_single (n : Nat) : fields [(0, n)] = BitVec.ofNat 32 n := by
  rw [fields_cons, fields_nil, pow_zero, mul_one, add_zero]

/-! ## The notice (R163) -/

/-- The drain condition: every entry FREE and the PWQ empty. -/
theorem drainCondition_iff (s : State) :
    s.drainCondition = true ↔ (∀ n : Fin 8, s.dtt.entry n = none) ∧ s.pwq.items = [] := by
  simp [State.drainCondition, occupancy_eq_zero]

/-- A notice changes nothing, or finishes a drain. -/
theorem notice_cases (s : State) :
    (s.bridge.state = .draining ∧ s.drainCondition = true ∧ notice s = enterDrainedState s) ∨
      (¬ (s.bridge.state = .draining ∧ s.drainCondition = true) ∧ notice s = s) := by
  unfold notice
  split
  · left; exact ⟨‹_ ∧ _›.1, ‹_ ∧ _›.2, rfl⟩
  · right; exact ⟨‹_›, rfl⟩

/-- A notice changes the bridge state and the DRAINED event alone. -/
theorem notice_frame (s : State) :
    notice s = { s with
      bridge := { s.bridge with state := (notice s).bridge.state }
      events := { s.events with edges := (notice s).events.edges } } := by
  rcases notice_cases s with ⟨-, -, h⟩ | ⟨-, h⟩
  · rw [h]; rfl
  · rw [h]

/-! ## The error capture and the counters -/

/-- An error handed to the error capture fills an empty record, or raises the overflow count of a held one (R178). -/
theorem captureError_cases (i : ErrorInfo) (s : State) :
    (s.events.capture = none ∧
        captureError i s =
          raise .error { s with events := { s.events with capture := some { error := i, overflow := 0 } } }) ∨
      ∃ h : Held, s.events.capture = some h ∧
        captureError i s =
          { s with
            events := { s.events with
              capture := some { h with overflow := min (h.overflow + 1) Config.overflowMax } } } := by
  unfold captureError
  cases hc : s.events.capture with
  | none => exact Or.inl ⟨rfl, rfl⟩
  | some h => exact Or.inr ⟨h, rfl, rfl⟩

/-- An error handed to the error capture changes the record and the ERROR event alone. -/
theorem captureError_frame (i : ErrorInfo) (s : State) :
    captureError i s = { s with
      events := { s.events with
        capture := (captureError i s).events.capture, edges := (captureError i s).events.edges } } := by
  rcases captureError_cases i s with ⟨-, h⟩ | ⟨_, -, h⟩
  · rw [h]; rfl
  · rw [h]

/-- Reading a counter after setting one. -/
@[simp] theorem get_put (c : Counters) (i j : CounterId) (v : Nat) :
    (c.put i v).get j = if i = j then v else c.get j := by
  cases i <;> cases j <;> rfl

/-- A saturated sum is at most 65535. -/
theorem saturate_le (v n : Nat) : saturate v n ≤ Config.counterMax :=
  Nat.min_le_right _ _

/-! ## A retirement, part by part (R8, R33, R46) -/

/-- Releasing the waiters lowers every writes-ahead count above 0 by 1. -/
theorem entry_releaseWaiters (s : State) (n : Fin 8) :
    (releaseWaiters s).dtt.entry n = (s.dtt.entry n).map Entry.oneLess := by
  show (mapEntries Entry.oneLess s.dtt.entries).get n = _
  rw [get_mapEntries]; rfl

/-- Releasing the waiters changes the entries and the ready list alone. -/
theorem releaseWaiters_frame (s : State) :
    releaseWaiters s = { s with
      dtt := { s.dtt with entries := mapEntries Entry.oneLess s.dtt.entries }
      arbiter := { s.arbiter with
        ready := s.arbiter.ready ++ (s.dtt.order.filter s.waitsForOne).map .dtt } } := rfl

/-- An entry waits for one more retirement exactly when it is WAITING with writes-ahead 1. -/
theorem waitsForOne_iff (s : State) (n : Fin 8) :
    s.waitsForOne n = true ↔ (s.dtt.entry n).map Entry.phase = some (.waiting 1) := by
  unfold State.waitsForOne
  cases h : s.dtt.entry n <;> simp

/-- What becomes of the queue when its head leaves. -/
theorem advanceQueue_cases (s : State) :
    (s.pwq.items = [] ∧ advanceQueue s = s) ∨
      (∃ h, s.pwq.items = [h] ∧ advanceQueue s = { s with pwq := { s.pwq with items := [] } }) ∨
      ∃ h i tl, s.pwq.items = h :: i :: tl ∧
        advanceQueue s = { s with
          pwq := { s.pwq with items := { i with cond := .ready } :: tl }
          arbiter := { s.arbiter with ready := s.arbiter.ready ++ [.posted] } } := by
  unfold advanceQueue
  rcases hq : s.pwq.items with _ | ⟨h, _ | ⟨i, tl⟩⟩
  · exact Or.inl ⟨rfl, rfl⟩
  · exact Or.inr (Or.inl ⟨h, rfl, rfl⟩)
  · exact Or.inr (Or.inr ⟨h, i, tl, rfl, rfl⟩)

/-- A new item is the READY head of an empty queue, or QUEUED behind the others (R33, R34). -/
theorem appendItem_cases (i : Item) (s : State) :
    (s.pwq.items = [] ∧
        appendItem i s = join [.posted] { s with pwq := { s.pwq with items := [{ i with cond := .ready }] } }) ∨
      (s.pwq.items ≠ [] ∧
        appendItem i s = { s with pwq := { s.pwq with items := s.pwq.items ++ [{ i with cond := .queued }] } }) := by
  unfold appendItem
  by_cases h : s.pwq.items = []
  · left; simp [h]
  · right; simp [h]

/-! ## Outcomes -/

/-- An outcome for an entry that is not ISSUED changes nothing. -/
theorem entryOutcome_of_not_issued {n : Fin 8} {s : State} (c : CellOutcome)
    (h : (s.dtt.entry n).map Entry.phase ≠ some .issued) : entryOutcome n c s = s := by
  unfold entryOutcome
  cases he : s.dtt.entry n with
  | none => rfl
  | some e =>
    have : e.phase ≠ .issued := by simpa [he] using h
    simp [this]

/-- An outcome for a head that is not IN-FLIGHT changes nothing. -/
theorem headOutcome_of_not_inFlight {s : State} (c : CellOutcome)
    (h : s.pwq.items.head?.map Item.cond ≠ some .inFlight) : headOutcome c s = s := by
  unfold headOutcome
  cases hq : s.pwq.items with
  | nil => rfl
  | cons i tl =>
    have : i.cond ≠ .inFlight := by simpa [hq] using h
    simp [this]

/-! ## Matching, capture and lookup -/

/-- An access that agrees with no entry matches none (R2). -/
theorem matching_eq_none {s : State} {a : Access} (h : s.unmatched a) : s.dtt.matching a = none := by
  simp only [Dtt.matching, List.findSome?_eq_none_iff]
  intro n _
  cases hn : s.dtt.entry n with
  | none => rfl
  | some e => simp [h n e (by simp [hn])]

/-- An access that a match is found for agrees with that entry in the key (R2). -/
theorem matching_sound {d : Dtt} {a : Access} {n : Fin 8} {e : Entry} (h : d.matching a = some (n, e)) :
    d.entry n = some e ∧ e.hasKey a = true := by
  obtain ⟨m, -, hm⟩ := List.exists_of_findSome?_eq_some h
  cases hx : d.entry m with
  | none => simp [hx] at hm
  | some f =>
    simp [hx] at hm
    obtain ⟨hk, rfl, rfl⟩ := hm
    exact ⟨hx, hk⟩

/-- The entry a capture takes is FREE (R5). -/
theorem firstFree_sound {d : Dtt} {n : Fin 8} (h : d.firstFree = some n) : d.entry n = none := by
  have := List.find?_some h
  simpa using this

/-- A capture finds no entry only when none is FREE (R7). -/
theorem firstFree_eq_none (d : Dtt) : d.firstFree = none ↔ ∀ n : Fin 8, (d.entry n).isSome = true := by
  unfold Dtt.firstFree
  rw [List.find?_eq_none]
  constructor
  · intro h n
    have := h n (mem_eight n)
    cases hx : d.entry n <;> simp_all
  · intro h n _
    have := h n
    cases hx : d.entry n <;> simp_all

/-- The window that a lookup finds is the entry of that number, and contains the address (R56). -/
theorem lookup_sound {t : WindowTable} {x : Addr} {n : Fin 16} {w : Window} (h : t.lookup x = some (n, w)) :
    t.entries.get n = w ∧ w.contains x = true := by
  simp only [WindowTable.lookup, Option.map_eq_some_iff, Prod.mk.injEq] at h
  obtain ⟨m, hm, rfl, rfl⟩ := h
  exact ⟨rfl, by simpa using List.find?_some hm⟩

/-! ## Every command completes -/

/-- No command faults or is refused: each answers a next state. -/
theorem exec_answers_next (c : Instr) (s : State) : ∃ t : State, exec c s = .next t := by
  cases c <;> exact ⟨_, rfl⟩

end Sys2Proof.Machine
end

