-- ==== Sys2Proof/Tests/Slice0.lean ====
section
/-! SUPPORT. The author's tests. Part 1: well-formedness refuses an ill-formed term for each check. Part 2: values and words the
spec writes out. Part 3: one step of each command on a small state. Part 4: for every obligation with hypotheses, a state
and operands that meet them, clause by clause. -/

namespace Sys2Proof.Tests

open Sys2Proof Sys2Proof.Machine

/-! ## Small states -/

/-- The state after a command, which always answers one (`exec_answers_next`). -/
def after (c : Instr) (s : State) : State :=
  match exec c s with
  | .next t => t
  | _ => s

/-- W2 of the spec's examples (chapter 1, worked example of a deferred read). -/
def w2 : Window :=
  { enable := true, localBase := 0x40000000, sizeCode := 20, slot := 5, targetBase := 0x00100000, mode := .posted
    exchange := true, budget := 3, step := 40 }

/-- A small CONFIRMED window that refuses exchanges. -/
def w4 : Window :=
  { enable := true, localBase := 0x50000000, sizeCode := 12, slot := 3, targetBase := 0, mode := .confirmed
    exchange := false, budget := 2, step := 100 }

/-- A READ-ONLY window that targets the own slot of `up`. -/
def w6 : Window :=
  { enable := true, localBase := 0x60000000, sizeCode := 12, slot := 7, targetBase := 0, mode := .readOnly
    exchange := false, budget := 0, step := 1 }

/-- A READ-ONLY window to another slot. -/
def w8 : Window :=
  { w6 with localBase := 0x70000000, slot := 8 }

/-- The part in slot 7, RUNNING and ONLINE, with four windows and nothing inside. -/
def up : State :=
  { State.reset with
    lines := { crst := false, rrst := false }
    rack := { state := .online, ownSlot := 7 }
    bridge := { state := .running, commandStatus := .ok }
    windows := { State.reset.windows with
      entries := (((State.reset.windows.entries.set 2 w2).set 4 w4).set 6 w6).set 8 w8 } }

/-- `up` with another bridge state. -/
def bridged (b : BridgeState) : State :=
  { up with bridge := { state := b, commandStatus := .ok } }

/-- `up` with the port in another state. -/
def ported (p : PortState) : State :=
  { up with rack := { up.rack with state := p } }

/-- CRST asserted, with RRST at the level given. -/
def held (rrst : Bool) : State :=
  { State.reset with lines := { crst := true, rrst := rrst } }

/-- A READ of 8 bytes through W2. -/
def readW2 : Access :=
  { requester := 1, kind := .read, address := 0x40000018, size := 8, data := [] }

/-- A WRITE of 4 bytes through W2. -/
def writeW2 : Access :=
  { requester := 1, kind := .write, address := 0x40000040, size := 4, data := [1, 2, 3, 4] }

/-- A DTT entry for a READ of 8 bytes through W2. -/
def readEntry (address : Addr) (attempts : Nat) (p : Phase) : Entry :=
  { requester := 0, kind := .read, address := address, size := 8, data := [], window := 2, slot := 5
    targetAddr := address - 0x3FF00000, budget := 3, step := 40, attempts := attempts, phase := p }

/-- A DTT entry with 4 bytes of write data through W2. -/
def writeEntry (kind : TxnKind) (address : Addr) (p : Phase) : Entry :=
  { requester := 0, kind := kind, address := address, size := 4, data := [9, 8, 7, 6], window := 2, slot := 5
    targetAddr := address - 0x3FF00000, budget := 3, step := 40, attempts := 1, phase := p }

/-- A posted WRITE to slot 9. -/
def item (c : ItemCond) : Item :=
  { kind := .write 3 1 0x50000040 0x01000040, slot := 9, data := [1, 2, 3, 4], budget := 1, step := 40
    attempts := if c = .queued then 0 else 1, cond := c }

/-- A MESSAGE to slot 3. -/
def note (c : ItemCond) : Item :=
  { kind := .message, slot := 3, data := [1, 2, 3, 4], budget := 4, step := 16, attempts := 0, cond := c }

/-- Five entries, one of each state, a head in flight and a message behind it, and a message received. -/
def busy : State :=
  { up with
    dtt := { up.dtt with
      entries :=
        ((((up.dtt.entries.set 0 (some (readEntry 0x40000018 0 (.waiting 1)))).set 1
          (some (readEntry 0x40000020 1 .issued))).set 2
          (some (writeEntry .exchange 0x40000040 (.deferred 0)))).set 3
          (some (writeEntry .cwrite 0x40000050 (.complete (.ok []) (some 0))))).set 4
          (some (readEntry 0x40000060 0 (.waiting 0)))
      order := [4, 2, 3, 1, 0] }
    pwq := { items := [item .inFlight, note .queued] }
    arbiter := { up.arbiter with
      ready := [.dtt 4]
      inFlight :=
        [{ origin := .dtt 1, gen := 4, kind := .read, size := 8, left := 0 },
          { origin := .posted, gen := 9, kind := .write, size := 4, left := 0 }] }
    imq := { up.imq with
      messages := [{ sender := 2, payload := [1, 2, 3, 4], sequence := 255 }]
      sequence := 0, counts := up.imq.counts.set 2 1, enable := true, quota := 1 } }

/-- A register write of a word at an offset. -/
def write (offset : Addr) (w : Word) : RegAccess :=
  { requester := 3, kind := .write, address := offset, size := 4, word := w }

/-- A register read at an offset. -/
def read (offset : Addr) : RegAccess :=
  { write offset 0 with kind := .read }

/-- A response cell from slot 5 to slot 7. -/
def respond (origin gen : BitVec 4) (code : BitVec 3) (payload : List Byte) : List Byte :=
  withCheckCode (header 2 code 5 7 origin gen payload.length ++ payload)

/-- A request cell from slot 2 to slot 7 with a 4-byte header. -/
def request (code : BitVec 3) (payload : List Byte) : List Byte :=
  withCheckCode (header 1 code 2 7 1 6 payload.length ++ payload)

/-! ## Part 1: well-formedness -/

theorem test_wellFormed_window_data : (Instr.windowSelectAccess { writeW2 with data := [1] }).isWellFormed = false := by
  decide

theorem test_wellFormed_both_data : (Instr.bothSelectsAccess { writeW2 with data := [] }).isWellFormed = false := by
  decide

theorem test_wellFormed_reset_data :
    (Instr.accessDuringCardReset (.window { writeW2 with data := [1, 2, 3] })).isWellFormed = false ∧
      (Instr.accessDuringCardReset (.both { writeW2 with data := [1] })).isWellFormed = false := by
  decide

theorem test_wellFormed_malformed_is_not : (Instr.malformedRegisterAccess (read 0x004)).isWellFormed = false := by
  decide

theorem test_wellFormed_register : (Instr.registerWrite { write 0x010 1 with size := 2 }).isWellFormed = false := by
  decide

/-! ## Part 2: values and words of the spec -/

set_option maxRecDepth 20000 in
/-- R116: the nine bytes 0x31 to 0x39. -/
theorem test_checkCode_example :
    checkCode [0x31, 0x32, 0x33, 0x34, 0x35, 0x36, 0x37, 0x38, 0x39] = 0x29B1 := by
  decide

/-- R115: an 8-byte read is a 10-byte request, answered by a 14-byte response. -/
theorem test_cell_lengths :
    (requestFrame 7 (.dtt 2) 5 { kind := .read, dest := 5, address := 0x00100018, count := 8, payload := [] }).length = 10 ∧
      (respond 2 5 0 [0, 1, 2, 3, 4, 5, 6, 7]).length = 14 := by
  decide

/-- R115: the header and the address of that request, bit by bit. -/
theorem test_read_request_bytes :
    (requestFrame 7 (.dtt 2) 5 { kind := .read, dest := 5, address := 0x00100018, count := 8, payload := [] }).take 8 =
      [0b01000000, 0x75, 0x25, 0x08, 0x00, 0x10, 0x00, 0x18] := by
  decide

/-- R189: the attributes word 0x00280310 is POSTED, exchange permitted, budget 3, step 40. -/
theorem test_attributes_word : w2.view .attributes = 0x00280310 := by
  decide

/-- R18, R88, R147, R96: the values taken at the edges. -/
theorem test_values_taken :
    takeDiscardTime 5 = 6 ∧ takeDiscardTime 17 = 16 ∧ takeDiscardTime 0 = 0 ∧ takeIssueCap 0 = 1 ∧ takeIssueCap 7 = 4 ∧
      takeQuota 0 = 1 ∧ takeQuota 63 = 32 ∧ takeNonzero 0 = 1 := by
  decide

/-- R131: the table of pauses. -/
theorem test_deferral_times :
    deferralTicks 10 8 = 80 ∧ deferralTicks 40 3 = 120 ∧ deferralTicks 255 15 = 3825 := by
  decide

/-- R189: the codes of the staging words pick their registers (11.1). -/
theorem test_register_map :
    Reg.ofOffset 0x098 = some .windowCommand ∧ Reg.ofOffset 0x05C = some (.counter .imqRefused) ∧
      Reg.ofOffset 0x11C = some (.dttView 7) ∧ Reg.ofOffset 0x120 = none ∧ Reg.ofOffset 0x32C = some .imqStatus := by
  decide

/-- R186, R187: the identification word, and the port word and the bridge status of `busy`: slot 7 ONLINE; RUNNING, five
entries, two items, one message. -/
theorem test_views :
    readReg busy .identification = 0x0D410002 ∧ readReg busy .portWord = 0x207 ∧
      readReg busy .bridgeStatus = 0x01020501 := by
  decide

/-- R190: D1 of `busy` is ISSUED, requester 0, READ, window 2, attempts 1. -/
theorem test_dtt_view : readReg busy (.dttView 1) = 0x00012102 := by
  decide

/-- The words of the worked example "Reading a card cold" (11): the capture of a REJECTED posted WRITE, and the head header. -/
theorem test_cold_read :
    ([Reg.captureKind, .captureLocal, .captureTarget, .captureWindow, .captureOverflow].map
        (readReg { up with
          events := { up.events with
            capture := some { error := itemError .rejected (item .inFlight), overflow := 1 } } })) =
        [0x1F010381, 0x50000040, 0x01000040, 0x00000903, 1] ∧
      imqHeaderWord { busy.imq with messages := [⟨2, List.replicate 8 0, 254⟩] } = 0x000208FE := by
  decide

/-- No row of the table has bits, so no word spells a command. -/
theorem test_no_table_word : decodeTableWord 32 0x201 = none := by
  decide

/-! ## Part 3: one step of each command -/

theorem test_window_read_captured :
    (after (.windowSelectAccess readW2) up).dtt.entry 0 =
        some { readEntry 0x40000018 0 (.waiting 0) with requester := 1 } ∧
      (after (.windowSelectAccess readW2) up).answer = some .retry := by
  decide

theorem test_window_write_posted :
    (after (.windowSelectAccess writeW2) up).answer = some (.done .nothing) ∧
      (after (.windowSelectAccess writeW2) up).arbiter.ready = [.posted] := by
  decide

theorem test_both_selects : (after (.bothSelectsAccess readW2) up).answer = some .fault := by
  decide

theorem test_access_during_reset : (after (.accessDuringCardReset (.window readW2)) (held false)).answer = some .retry := by
  decide

theorem test_malformed_register :
    (after (.malformedRegisterAccess { read 0x004 with address := 0x006 }) up).answer = some .fault := by
  decide

/-- R62: 0x0201 at 0x098 is COMMIT 2; staged zeros are refused with BAD-SIZE. -/
theorem test_register_commit : (after (.registerWrite (write 0x098 0x0201)) up).windows.status = .badSize := by
  decide

theorem test_register_read : (after (.registerWrite (read 0x004)) up).answer = some (.done (.word 0x207)) := by
  decide

theorem test_start : (after .start (bridged .stopped)).bridge.state = .running := by
  decide

theorem test_drain_idle :
    (after .drain up).bridge.state = .drained ∧ (after .drain up).isPending .drained = true := by
  decide

theorem test_purge :
    (after .purge { busy with bridge := { busy.bridge with state := .draining } }).dtt.entry 3 = none ∧
      (after .purge { busy with bridge := { busy.bridge with state := .draining } }).events.counters.discarded = 1 := by
  decide

theorem test_stop_refused : (after .stop busy).bridge = { state := .running, commandStatus := .state } := by
  decide

theorem test_go_down : (after .go (ported .down)).bridge.commandStatus = .rackDown := by
  decide

theorem test_pause : (after .pause up).rack.state = .paused := by
  decide

theorem test_enterDrained : (after .enterDrained (bridged .draining)).bridge.state = .drained := by
  decide

theorem test_commit :
    (after (.commit 15) { up with windows := { up.windows with staging := w4 } }).windows.entries.get 15 = w4 := by
  decide

theorem test_load : (after (.load 2) up).windows.staging = w2 := by
  decide

theorem test_disable : (after (.disable 2) up).windows.entries.get 2 = { w2 with enable := false } := by
  decide

/-- R61: write-mode code 3 is taken as READ-ONLY. -/
theorem test_staging_mode : (after (.stagingWrite .attributes 0x3) up).windows.staging.mode = .readOnly := by
  decide

theorem test_send_length : (after .send up).compose.sendStatus = .badLength := by
  decide

theorem test_compose : (after (.composeWrite (.payload 7) 5) up).compose.payload.get 7 = 5 := by
  decide

theorem test_msgRetry : (after (.msgRetryWrite 0x00F) up).compose.msgStep = 1 := by
  decide

theorem test_pop_empty : (after .pop up).imq.status = .empty := by
  decide

theorem test_pop_head : (after .pop busy).imq.counts.get 2 = 0 := by
  decide

theorem test_imqControl : (after (.imqControlWrite 0x3F01) up).imq.quota = 32 := by
  decide

theorem test_errclr :
    (after .errclr { up with
      events := { up.events with capture := some { error := localError .misaligned readW2, overflow := 4 }, edges := 0x400 }
      }).isPending .error = true := by
  decide

/-- R172: writing 1 for MSG while the IMQ holds a message leaves MSG pending. -/
theorem test_pending_clear : (after (.eventPendingClear 0x7FF) busy).pendingEvents = 1 := by
  decide

theorem test_enable_interrupt : (after (.eventEnableWrite 1) busy).interrupt = true := by
  decide

theorem test_counter_clear :
    (after (.counterClear .stray) { up with
      events := { up.events with counters := { up.events.counters with stray := 65535, dropped := 3 } }
      }).events.counters = { Counters.zero with dropped := 3 } := by
  decide

theorem test_issueCap : (after (.issueCapWrite 0) up).arbiter.issueCap = 1 := by
  decide

theorem test_respTimeout : (after (.respTimeoutWrite 0x1FF) up).arbiter.respTimeout = 255 := by
  decide

theorem test_discardTime : (after (.discardTimeWrite 3) up).dtt.discardTime = 6 := by
  decide

/-- R123: the tick in progress keeps its length. -/
theorem test_timebase : (after (.timebaseWrite 50) up).time = { timebase := 50, tickLength := 25, refPeriods := 0 } := by
  decide

/-- R92: the first cell an origin sends after card reset carries generation 1. -/
theorem test_issue :
    ((after .issue busy).arbiter.inFlight.getD 2 ⟨.posted, 0, .read, 0, 0⟩) =
        { origin := .dtt 4, gen := 1, kind := .read, size := 8, left := 1024 } := by
  decide

set_option maxRecDepth 20000 in
/-- R98, R10: a read answered ACCEPT with its 8 bytes. -/
theorem test_response_completes :
    ((after (.cellReception (respond 1 4 0 [0, 1, 2, 3, 4, 5, 6, 7])) busy).dtt.entry 1).map Entry.phase =
      some (.complete (.ok [0, 1, 2, 3, 4, 5, 6, 7]) (some 4096)) := by
  decide

set_option maxRecDepth 20000 in
/-- R8, R46: the head's ACCEPT releases D0 ahead of P. -/
theorem test_response_retires :
    (after (.cellReception (respond 8 9 0 [])) busy).arbiter.ready = [.dtt 4, .dtt 0, .posted] := by
  decide

/-- R97: NO-ANSWER drops the head and captures its error. -/
theorem test_response_timer :
    (after (.responseTimerExpiry .posted) busy).events.capture =
      some { error := itemError .noAnswer (item .inFlight), overflow := 0 } := by
  decide

theorem test_deferral_expiry : (after (.deferralExpiry (.dtt 2)) busy).arbiter.ready = [.dtt 4, .dtt 2] := by
  decide

/-- R21: the discarded confirmed write loses its result. -/
theorem test_discard_expiry :
    (after (.discardExpiry 3) busy).isPending .lostResult = true ∧ (after (.discardExpiry 3) busy).dtt.entry 3 = none := by
  decide

theorem test_rrstAssert :
    (after .rrstAssert busy).events.counters.dropped = 2 ∧ (after .rrstAssert busy).dtt.occupancy = 5 := by
  decide

theorem test_rrstRelease :
    (after (.rrstRelease 9) State.reset).rack = { state := .paused, ownSlot := 9 } := by
  decide

theorem test_cardReset : (after .cardReset busy).dtt.occupancy = 0 ∧ (after .cardReset busy).lines.crst = true := by
  decide

theorem test_crstRelease : (after (.crstRelease 9) (held false)).rack = { state := .paused, ownSlot := 9 } := by
  decide

theorem test_tick :
    ((after .timeBaseTick { busy with arbiter := { busy.arbiter with
      inFlight := [⟨.dtt 1, 4, .read, 8, 16⟩] } }).arbiter.inFlight.map InFlight.left) = [15] := by
  decide

/-! ## Part 4: the hypotheses of the obligations are met

One theorem for each obligation with hypotheses, in the order of Obligations.lean; its parts are the obligation's clauses. The
state `up` meets "CRST is released", and no access matches one of its entries. -/

theorem witness_StepRunsTheFrontCommand :
    { up with pending := [.issue, .pop] }.pending = .issue :: [.pop] ∧ up.pending = [] := by
  decide

/-- The two items of `busy` have the fields R31 allows. -/
theorem busy_items_shaped : ∀ i ∈ busy.pwq.items, i.shaped := by
  intro i hi
  have : i = item .inFlight ∨ i = note .queued := by simpa [busy] using hi
  rcases this with rfl | rfl
  · simp [item, Item.shaped, ItemKind.localAddress, goodSize, attemptsAllowed, Config.attemptsMax]
  · simp [note, Item.shaped, ItemKind.localAddress, goodLength, attemptsAllowed, Config.attemptsMax]

/-- A gap of the map, the word after its last register and the last word of the window are no register's offset. -/
theorem witness_EveryRegisterStandsAtItsOffset :
    ∀ r : Reg, r.offset ≠ (0x060 : BitVec 12).toNat ∧ r.offset ≠ (0x330 : BitVec 12).toNat ∧
      r.offset ≠ (0xFFC : BitVec 12).toNat := by
  intro r
  cases r with
  | counter c => cases c <;> decide
  | staging f => cases f <;> decide
  | compose f =>
    cases f with
    | payload k => revert k; decide
    | _ => decide
  | dttView n => revert n; decide
  | imqPayload k => revert k; decide
  | _ => decide

theorem witness_EveryStepKeepsTheStateSound :
    { busy with pending := [.issue] }.sound ∧ ∃ t, step { busy with pending := [.issue] } = .next t := by
  refine ⟨⟨by decide, by decide, by decide, by decide, ?_, ?_, by decide⟩, exec_answers_next .issue _⟩
  · exact ⟨by decide, by decide, by decide, by decide, by decide, busy_items_shaped, by decide, by decide, by decide⟩
  · exact ⟨by decide, by decide, by decide, by decide, by decide, by decide⟩

theorem witness_EveryCommandKeepsTheInboundQueueConsistent :
    busy.imq.consistent ∧ exec .pop busy = .next (after .pop busy) :=
  ⟨by decide, rfl⟩

theorem witness_EveryCommandKeepsSettingsAndWindowsLegal :
    up.settingsLegal ∧ up.windowsLegal ∧ exec (.issueCapWrite 7) up = .next (after (.issueCapWrite 7) up) :=
  ⟨by decide, by decide, rfl⟩

/-- The record full, the overflow count and DISCARDED at their ends. -/
def full : State :=
  { busy with
    events := { busy.events with
      capture := some { error := localError .misaligned readW2, overflow := 255 }
      counters := { Counters.zero with discarded := 65535 } } }

theorem witness_EveryCommandKeepsTheCountsBounded :
    full.countsBounded ∧ exec (.discardExpiry 3) full = .next (after (.discardExpiry 3) full) :=
  ⟨by decide, rfl⟩

theorem witness_HeldErrorStaysUntilCleared :
    full.events.capture = some { error := localError .misaligned readW2, overflow := 255 } ∧
      (Instr.discardExpiry 3).target ≠ some .errclr ∧
      exec (.discardExpiry 3) full = .next (after (.discardExpiry 3) full) :=
  ⟨by decide, by decide, rfl⟩

theorem witness_BridgeStateChangesOnlyByCommandOrDrain :
    (after .drain up).bridge.state ≠ up.bridge.state ∧ (after .cardReset up).bridge.state ≠ up.bridge.state ∧
      (after .enterDrained (bridged .draining)).bridge.state ≠ (bridged .draining).bridge.state := by
  decide

/-- The clause of a release of CRST with RRST asserted is met from a slot that no run holds under CRST. -/
theorem witness_OwnSlotChangesOnlyAtASampleOrCardReset :
    (after (.rrstRelease 15) State.reset).rack.ownSlot ≠ State.reset.rack.ownSlot ∧
      (after (.crstRelease 1) (held false)).rack.ownSlot ≠ (held false).rack.ownSlot ∧
      (after (.crstRelease 15) { held true with rack := { state := .down, ownSlot := 9 } }).rack.ownSlot ≠ 9 ∧
      (after .cardReset up).rack.ownSlot ≠ up.rack.ownSlot := by
  decide

theorem witness_EveryAccessUnderCardResetIsAnsweredRetry :
    (held true).lines.crst = true ∧ (Instr.windowSelectAccess readW2).isAccess = true ∧ Instr.pop.isAccess = true ∧
      (Instr.registerWrite (write 0x098 1)).isAccess = true := by
  decide

theorem witness_BothSelectsAnsweredFault : up.live := by
  decide

theorem witness_MalformedRegisterAccessAnsweredFault :
    up.live ∧ { write 0 0 with kind := .exchange }.kind = .exchange ∧ { write 0 0 with size := 5 }.size ≠ 4 ∧
      (write 0xFFE 0).address.toNat % 4 ≠ 0 ∧
      ((write 0xFFC 0).kind ≠ .exchange ∧ (write 0xFFC 0).size = 4 ∧ (write 0xFFC 0).address.toNat % 4 = 0) ∧
      (held false).lines.crst = true := by
  decide

theorem witness_RegisterReadsShowTheirWordsAndIgnoredWritesChangeNothing :
    up.events.capture = none ∧
      full.events.capture = some { error := localError .misaligned readW2, overflow := 255 } ∧ up.live ∧ (read 0x32C).size = 4 ∧ (read 0x32C).address.toNat % 4 = 0 ∧ (read 0x32C).kind = .read ∧
      Reg.ofOffset (read 0x32C).offset = some .imqStatus ∧ Reg.ofOffset (read 0xFFC).offset = none ∧
      (write 0x120 1).kind = .write ∧ Reg.ofOffset (write 0x120 1).offset = none ∧
      (Reg.ofOffset (write 0x000 1).offset).map Reg.accessClass = some .readOnly ∧
      (Reg.ofOffset (write 0x008 7).offset = some .bridgeCommand ∧ 6 < ((write 0x008 7).word.extractLsb' 0 4).toNat) ∧
      (Reg.ofOffset (write 0x098 4).offset = some .windowCommand ∧ 3 < ((write 0x098 4).word.extractLsb' 0 4).toNat) ∧
      (write 0x008 0xFFFFFFF0).word.extractLsb' 0 4 = 0 := by
  decide

theorem witness_RegisterWriteDoesWhatItsRowDoes :
    (write 0 0).size = 4 ∧ (write 0 0).kind = .write ∧
      ([0x010, 0x014, 0x018, 0x01C, 0x020, 0x024, 0x05C, 0x094, 0x194, 0x224, 0x228, 0x230, 0x324, 0x328, 0x008,
          0x098].map fun x => Reg.ofOffset (write x 0).offset) =
        [some .timebase, some .respTimeout, some .discardTime, some .issueCap, some .eventPending, some .eventEnable,
          some (.counter .imqRefused), some (.staging .attributes), some .errclr, some (.compose (.payload 7)),
          some .send, some .msgRetry, some .pop, some .imqControl, some .bridgeCommand, some .windowCommand] ∧
      (write 0x008 6).word.extractLsb' 0 4 = 6 ∧ (write 0x098 3).word.extractLsb' 0 4 = 3 := by
  decide

theorem witness_MisalignedAccessAnsweredFault :
    up.live ∧ (∀ n ∈ [0, 3, 5, 7, 9, 16], n ≠ 1 ∧ n ≠ 2 ∧ n ≠ 4 ∧ n ≠ 8) ∧
      { readW2 with address := 0x40000004 }.address.toNat % readW2.size ≠ 0 ∧
      ({ readW2 with kind := .exchange }.kind = .exchange ∧ readW2.size ≠ 4) := by
  decide

/-- The access that D1 of `busy` matches, that D3 matches, and that with other data. -/
def toD1 : Access :=
  { requester := 0, kind := .read, address := 0x40000020, size := 8, data := [] }

/-- The access that D3 of `busy` matches, with write data. -/
def toD3 (data : List Byte) : Access :=
  { requester := 0, kind := .write, address := 0x40000050, size := 4, data := data }

theorem witness_MatchingAccessIsDecidedByItsEntry :
    busy.live ∧ busy.keysDistinct ∧
      (toD3 [9, 8, 7, 5]).wellFormed = true ∧ (toD3 [9, 8, 7, 5]).dataFits = true ∧ toD1.wellFormed = true ∧
      busy.dtt.entry 3 = some (writeEntry .cwrite 0x40000050 (.complete (.ok []) (some 0))) ∧
      (writeEntry .cwrite 0x40000050 (.complete (.ok []) (some 0))).hasKey (toD3 [9, 8, 7, 5]) = true ∧
      (toD3 [9, 8, 7, 5]).data ≠ (writeEntry .cwrite 0x40000050 (.complete (.ok []) (some 0))).data ∧
      (toD3 [9, 8, 7, 6]).data = (writeEntry .cwrite 0x40000050 (.complete (.ok []) (some 0))).data ∧
      (readEntry 0x40000020 1 .issued).hasKey toD1 = true ∧ (readEntry 0x40000020 1 .issued).isComplete = false := by
  decide

theorem witness_NewAccessRefusedBeforeTheWindows :
    up.live ∧ readW2.wellFormed = true ∧ up.unmatched readW2 ∧ (bridged .stopped).bridge.state = .stopped ∧
      (bridged .draining).bridge.state = .draining ∧ (bridged .drained).bridge.state = .drained ∧
      (ported .down).rack.state = .down ∧ (ported .down).bridge.state = .running ∧ (ported .paused).rack.state ≠ .down ∧
      (∀ n : Fin 16, ((ported .paused).windows.entries.get n).contains 0x3FFFFFFF = false) := by
  decide

theorem witness_FoundWindowAloneRefuses :
    up.live ∧ up.unmatched { readW2 with address := 0x60000FF8 } ∧
      { readW2 with address := 0x60000FF8 }.wellFormed = true ∧
      up.windows.entries.get 6 = w6 ∧ w6.contains 0x60000FF8 = true ∧ w6.slot = up.rack.ownSlot ∧
      (∀ m : Fin 16, m < 6 → (up.windows.entries.get m).contains 0x60000FF8 = false) ∧
      up.windows.entries.get 8 = w8 ∧ w8.contains 0x70000000 = true ∧ w8.slot ≠ up.rack.ownSlot ∧
      w8.mode = .readOnly ∧ w8.exchange = false ∧
      (∀ m : Fin 16, m < 8 → (up.windows.entries.get m).contains 0x70000000 = false) := by
  decide

/-- Every entry occupied. -/
def packed : State :=
  { up with dtt := { up.dtt with entries := Vector.replicate 8 (some (readEntry 0x40000100 0 (.waiting 0))) } }

theorem witness_CaptureTakesTheLowestFreeEntry :
    busy.live ∧ readW2.wellFormed = true ∧ readW2.dataFits = true ∧ busy.unmatched readW2 ∧
      up.windows.lookup 0x40000018 = some (2, w2) ∧ up.windows.lookup 0x50000FFC = some (4, w4) ∧
      w2.slot ≠ up.rack.ownSlot ∧ w4.mode = .confirmed ∧ w2.exchange = true ∧
      busy.dtt.entry 5 = none ∧ (∀ k : Fin 8, k < 5 → (busy.dtt.entry k).isSome = true) ∧
      packed.unmatched readW2 ∧ ∀ m : Fin 8, (packed.dtt.entry m).isSome = true := by
  decide

/-- A queue of 32 items. -/
def loaded : State :=
  { up with pwq := { items := item .ready :: List.replicate 31 (item .queued) } }

theorem witness_PostedWriteJoinsTheQueue :
    writeW2.wellFormed = true ∧ writeW2.dataFits = true ∧ loaded.live ∧ loaded.unmatched writeW2 ∧
      loaded.windows.lookup writeW2.address = some (2, w2) ∧ w2.mode = .posted ∧ w2.slot ≠ loaded.rack.ownSlot ∧
      32 ≤ loaded.pwq.items.length ∧ up.pwq.items.length < 32 ∧ busy.pwq.items.length < 32 := by
  decide

theorem witness_TranslationStaysInTheTargetRange :
    w2.judge = .ok ∧ w2.contains 0x40000000 = true ∧ w2.contains 0x400FFFFF = true := by
  decide

theorem witness_StartEntersRunning : (bridged .draining).live := by
  decide

theorem witness_DrainClosesTheDoor :
    busy.live ∧ busy.bridge.state = .running ∧ busy.drainCondition = false ∧ up.drainCondition = true ∧
      (bridged .drained).bridge.state = .drained ∧ (bridged .stopped).bridge.state = .stopped := by
  decide

theorem witness_PurgeFreesExactlyTheCompleteEntries :
    (bridged .draining).live ∧ (bridged .draining).bridge.state = .draining ∧
      (bridged .drained).bridge.state = .drained ∧ (∀ n : Fin 8, (bridged .drained).dtt.entry n = none) ∧
      (bridged .stopped).bridge.state = .stopped ∧ up.bridge.state = .running := by
  decide

theorem witness_StopTakenOnlyWhenNothingIsInside :
    (bridged .drained).live ∧ (bridged .drained).bridge.state = .drained ∧ up.bridge.state = .running ∧
      readW2.wellFormed = true ∧ (bridged .drained).unmatched readW2 ∧ (bridged .drained).emptyWhenOff ∧
      (after .stop (bridged .drained)).bridge.commandStatus = .ok := by
  decide

theorem witness_GoAndPauseMoveThePort :
    up.live ∧ (ported .paused).rack.state ≠ .down ∧ (ported .down).rack.state = .down := by
  decide

theorem witness_NoticeFinishesADrain :
    (bridged .draining).live ∧ (bridged .draining).bridge.state = .draining ∧
      (∀ n : Fin 8, (bridged .draining).dtt.entry n = none) ∧ (bridged .draining).pwq.items = [] ∧
      up.bridge.state ≠ .draining ∧ (∃ n : Fin 8, (busy.dtt.entry n).isSome = true) ∧ busy.pwq.items ≠ [] := by
  decide

theorem witness_CommitIsJudgedAndWhole :
    up.live ∧ (15 : BitVec 8).toNat < 16 ∧ 16 ≤ (16 : BitVec 8).toNat ∧ (11 : BitVec 5).toNat < 12 ∧
      30 < (31 : BitVec 5).toNat ∧ w4.sizeCode.toNat = 12 ∧ w4.step ≠ 0 ∧ { w4 with step := 0 }.step = 0 ∧
      { w4 with localBase := 0x50000800 }.localBase.toNat % 2 ^ w4.sizeCode.toNat ≠ 0 ∧
      w4.localBase.toNat % 2 ^ w4.sizeCode.toNat = 0 ∧ w4.targetBase.toNat % 2 ^ w4.sizeCode.toNat = 0 := by
  decide

theorem witness_LoadCopiesAndDisableKeepsFields : up.live ∧ (15 : BitVec 8).toNat < 16 := by
  decide

theorem witness_StagingWriteSetsExactlyItsWord : up.live := by
  decide

/-- `up` with a message composed to slot 3. -/
def composed (length : BitVec 8) : State :=
  { up with compose := { up.compose with destination := 3, length := length } }

theorem witness_SendIsDecidedByItsChecks :
    (bridged .drained).bridge.state ≠ .running ∧ (ported .down).rack.state = .down ∧
      ({ composed 4 with compose := { up.compose with destination := 7 } }).compose.destination = up.rack.ownSlot ∧
      (composed 4).compose.destination ≠ (composed 4).rack.ownSlot ∧ (composed 36).compose.length.toNat % 4 = 0 ∧
      32 < (composed 36).compose.length.toNat ∧ (composed 0).compose.length.toNat < 4 ∧
      (composed 30).compose.length.toNat % 4 ≠ 0 ∧ (composed 32).compose.length.toNat ≤ 32 ∧
      32 ≤ loaded.pwq.items.length ∧ (composed 4).pwq.items.length < 32 ∧ (composed 4).live := by
  decide

theorem witness_ComposeAndRetryWritesSetTheirFields : up.live := by
  decide

theorem witness_ComposedWordsReadBackWordForWord :
    goodLength (composed 4).compose.length.toNat = true ∧ goodLength (composed 32).compose.length.toNat = true := by
  decide

theorem witness_PopRemovesTheHead :
    busy.live ∧ busy.imq.messages = { sender := 2, payload := [1, 2, 3, 4], sequence := 255 } :: [] ∧
      up.imq.messages = [] := by
  decide

theorem witness_ErrorCaptureKeepsTheFirst :
    up.events.capture = none ∧
      full.events.capture = some { error := localError .misaligned readW2, overflow := 255 } ∧ up.live := by
  decide

theorem witness_PendingWriteClearsTheWrittenEdges : busy.live := by
  decide

theorem witness_EnableWriteSetsEveryEnableAndInt : busy.live := by
  decide

theorem witness_CounterWriteClearsThatCounter : full.live := by
  decide

theorem witness_SettingsTakeTheNearestLegalValue : up.live := by
  decide

theorem witness_IssueSendsTheFront :
    busy.live ∧ busy.rack.state = .online ∧ busy.arbiter.inFlight.length < busy.arbiter.issueCap.toNat ∧
      busy.arbiter.ready = .dtt 4 :: [] ∧ busy.dtt.entry 4 = some (readEntry 0x40000060 0 (.waiting 0)) ∧
      { loaded with arbiter := { up.arbiter with ready := [.posted] } }.arbiter.ready = .posted :: [] ∧
      loaded.pwq.items = item .ready :: List.replicate 31 (item .queued) ∧ up.arbiter.ready = [] ∧
      (ported .paused).rack.state ≠ .online ∧
      { busy with arbiter := { busy.arbiter with issueCap := 2 } }.arbiter.issueCap.toNat ≤
        busy.arbiter.inFlight.length := by
  decide

set_option maxRecDepth 20000 in
theorem witness_ResponseIsMatchedByItsTagAlone :
    busy.live ∧ busy.keeps (respond 1 4 0 [0, 1, 2, 3, 4, 5, 6, 7]) ∧
      frameType (respond 1 4 0 [0, 1, 2, 3, 4, 5, 6, 7]) = 2 ∧ (busy.arbiter.inFlight.map InFlight.origin).Nodup ∧
      ({ origin := .dtt 1, gen := 4, kind := .read, size := 8, left := 0 } : InFlight) ∈ busy.arbiter.inFlight ∧
      (Origin.dtt 1).number = frameOrigin (respond 1 4 0 [0, 1, 2, 3, 4, 5, 6, 7]) ∧
      frameGen (respond 1 4 0 [0, 1, 2, 3, 4, 5, 6, 7]) = 4 ∧
      (framePayload (respond 1 4 0 [0, 1, 2, 3, 4, 5, 6, 7])).length = 8 := by
  decide

set_option maxRecDepth 20000 in
/-- The other clauses: a short payload, an empty and a carried one, the codes 1, 2, 3 and 7, and a tag that is a stray. -/
theorem witness_ResponseIsMatchedByItsTagAlone_clauses :
    (∀ f ∈ [respond 1 4 0 [1], respond 8 9 0 [], respond 8 9 0 [1], respond 1 4 1 [], respond 8 9 2 [], respond 1 4 2 [0],
        respond 1 4 3 [], respond 8 9 7 [], respond 1 5 0 [], respond 9 4 0 []],
      busy.keeps f ∧ frameType f = 2) ∧
      frameCode (respond 8 9 7 []) = 7 ∧ framePayload (respond 8 9 0 []) = [] ∧ framePayload (respond 1 4 2 [0]) = [0] ∧
      ∀ r ∈ busy.arbiter.inFlight, ¬ (r.origin.number = frameOrigin (respond 1 5 0 []) ∧ r.gen = 5) := by
  decide

theorem witness_FinalOutcomeCompletesTheEntry :
    busy.dtt.entry 1 = some (readEntry 0x40000020 1 .issued) ∧ (readEntry 0x40000020 1 .issued).phase = .issued := by
  decide

theorem witness_FinalOutcomeRetiresTheHead :
    busy.pwq.items = item .inFlight :: [note .queued] ∧ (item .inFlight).cond = .inFlight := by
  decide

theorem witness_BusyDefersOrExhausts :
    busy.dtt.entry 1 = some (readEntry 0x40000020 1 .issued) ∧
      (readEntry 0x40000020 2 .issued).attempts < (readEntry 0x40000020 2 .issued).budget.toNat ∧
      (readEntry 0x40000020 3 .issued).attempts = (readEntry 0x40000020 3 .issued).budget.toNat ∧
      { item .inFlight with budget := 0 }.budget = 0 ∧ (item .inFlight).budget ≠ 0 ∧
      (item .inFlight).attempts = (item .inFlight).budget.toNat ∧ busy.pwq.items = item .inFlight :: [note .queued] := by
  decide

theorem witness_RetirementReleasesWaitersAheadOfTheLane :
    busy.pwq.items = item .inFlight :: [note .queued] ∧
      { bridged .draining with pwq := { items := [item .inFlight] } }.pwq.items = item .inFlight :: [] ∧
      (bridged .draining).bridge.state = .draining ∧ ∀ n : Fin 8, (bridged .draining).dtt.entry n = none := by
  decide

theorem witness_ResponseTimerExpiryGivesNoAnswer :
    busy.live ∧
      ({ origin := .dtt 1, gen := 4, kind := .read, size := 8, left := 0 } : InFlight) ∈ busy.arbiter.inFlight ∧
      ∀ r ∈ busy.arbiter.inFlight, r.origin = .dtt 4 → r.left ≠ 0 := by
  decide

set_option maxRecDepth 20000 in
/-- A cell too short, one too long, one with a broken check code, one of type 00, one whose count is 33, one with a byte too
few for its count, and one for another slot. -/
theorem witness_ReceptionFiltersCells :
    up.live ∧ (ported .down).rack.state = .down ∧ up.rack.state ≠ .down ∧ (List.replicate 5 (0 : Byte)).length < 6 ∧
      38 < (List.replicate 39 (0 : Byte)).length ∧ damaged [0x80, 0x57, 0x14, 0, 0, 0] = true ∧
      frameType (withCheckCode [0x00, 0x57, 0x14, 0]) = 0 ∧ frameCount (withCheckCode [0x40, 0x57, 0x14, 33]) = 33 ∧
      (withCheckCode (header 2 0 5 7 1 4 1)).length ≠ frameLength (withCheckCode (header 2 0 5 7 1 4 1)) ∧
      damaged (withCheckCode (header 2 0 5 8 1 4 0)) = false ∧
      frameDest (withCheckCode (header 2 0 5 8 1 4 0)) ≠ up.rack.ownSlot := by
  decide

set_option maxRecDepth 20000 in
theorem witness_InboundRequestsOtherThanMessagesAreRejected :
    up.live ∧ up.keeps (request 7 []) ∧ frameType (request 7 []) = 1 ∧ frameCode (request 7 []) ≠ 3 ∧
      up.keeps (requestFrame 2 .posted 1 { kind := .write, dest := 7, address := 8, count := 1, payload := [1] }) := by
  decide

set_option maxRecDepth 20000 in
/-- Refused by the enable, by a length of 0, by the quota and by a full queue, and stored. -/
theorem witness_ArrivalIsDecidedByTheQueue :
    up.live ∧ up.keeps (request 3 [1, 2, 3, 4]) ∧ frameType (request 3 [1, 2, 3, 4]) = 1 ∧
      frameCode (request 3 [1, 2, 3, 4]) = 3 ∧ up.imq.enable = false ∧ busy.imq.enable = true ∧ busy.keeps (request 3 []) ∧
      (framePayload (request 3 [])).length < 4 ∧ (framePayload (request 3 [1, 2, 3, 4])).length = 4 ∧
      busy.imq.quota.toNat ≤ busy.imq.counts.get (frameSource (request 3 [1, 2, 3, 4])).toFin ∧
      busy.imq.counts.get 3 < busy.imq.quota.toNat ∧ busy.imq.messages.length < 32 ∧
      32 ≤ (List.replicate 32 (Message.mk 1 [1, 2, 3, 4] 0)).length := by
  decide

theorem witness_SentCellsReadBackFieldByField :
    let r : Request := { kind := .read, dest := 5, address := 0x00100018, count := 8, payload := [] }
    let m : Request := { kind := .message, dest := 5, address := 0, count := 32, payload := List.replicate 32 7 }
    (r.kind = .read ∧ r.payload = [] ∧ r.count ≤ 8) ∧ (m.kind = .message ∧ m.count = m.payload.length ∧ m.count ≤ 32) := by
  decide

theorem witness_MessageCrossesTwoParts :
    let s : State :=
      { up with pwq := { items := [note .ready, item .queued] }, arbiter := { up.arbiter with ready := [.posted] } }
    let t : State := { up with rack := { state := .paused, ownSlot := 3 }, imq := { up.imq with enable := true } }
    s.live ∧ s.rack.state = .online ∧ s.arbiter.inFlight.length < s.arbiter.issueCap.toNat ∧
      s.arbiter.ready = .posted :: [] ∧ s.pwq.items = note .ready :: [item .queued] ∧
      (∀ r ∈ s.arbiter.inFlight, r.origin ≠ .posted) ∧ (note .ready).kind = .message ∧
      goodLength (note .ready).data.length = true ∧ t.live ∧ t.rack.state ≠ .down ∧ t.rack.ownSlot = (note .ready).slot ∧
      t.imq.enable = true ∧ t.imq.counts.get s.rack.ownSlot.toFin < t.imq.quota.toNat ∧ t.imq.messages.length < 32 := by
  decide

theorem witness_DeferralExpiryRejoinsTheReadyList :
    busy.live ∧ busy.dtt.entry 2 = some (writeEntry .exchange 0x40000040 (.deferred 0)) ∧
      { up with pwq := { items := [item (.deferred 0)] } }.pwq.items = item (.deferred 0) :: [] ∧
      (busy.dtt.entry 1).map Entry.phase ≠ some (.deferred 0) ∧
      busy.pwq.items.head?.map Item.cond ≠ some (.deferred 0) := by
  decide

theorem witness_DiscardExpiryFreesTheEntry :
    busy.live ∧ busy.dtt.entry 3 = some (writeEntry .cwrite 0x40000050 (.complete (.ok []) (some 0))) ∧
      (writeEntry .cwrite 0x40000050 (.complete (.ok []) (some 0))).kind ≠ .read ∧
      (readEntry 0 0 (.complete .rejected (some 0))).kind = .read ∧ (∀ data, TxnResult.rejected ≠ .ok data) ∧
      busy.dtt.entry 7 = none := by
  refine ⟨by decide, by decide, by decide, by decide, ?_, by decide⟩
  intro data h
  cases h

theorem witness_TickRunsEveryTimer : busy.live := by
  decide

theorem witness_RackResetEntersDown :
    busy.live ∧ busy.lines.rrst = false ∧ busy.pwq.items = item .inFlight :: [note .queued] ∧ up.pwq.items = [] ∧
      State.reset.live ∧ State.reset.lines.rrst = true := by
  decide

theorem witness_ReleasesSampleTheSlot :
    State.reset.live ∧ State.reset.lines.rrst = true ∧ up.lines.rrst = false ∧ (held true).lines.crst = true ∧
      (held true).lines.rrst = true ∧ (held false).lines.rrst = false := by
  decide

theorem witness_CardResetSetsEveryBlock :
    State.reset.lines.rrst = true ∧ exec .cardReset State.reset = .next (after .cardReset State.reset) :=
  ⟨by decide, rfl⟩

end Sys2Proof.Tests
end

section
/-! SUPPORT. Deferred transactions: what a new access through a window becomes, which entry a capture takes, and what the
outcome of a cell makes of an ISSUED entry or of a head IN-FLIGHT. -/

namespace Sys2Proof.Machine

/-! ## The way of a new access through the decision order (R75) -/

/-- A well-formed access that matches no entry is decided by steps 3 to 7. -/
theorem exec_windowSelectAccess_unmatched {a : Access} {s : State} (hlive : s.live) (hwf : a.wellFormed = true)
    (hun : s.unmatched a) : exec (.windowSelectAccess a) s = .next (newAccess a s) := by
  have hexec : exec (.windowSelectAccess a) s = localStep (windowSelect a) s := rfl
  rw [hexec, localStep_live _ hlive, windowSelect, matching_eq_none hun]
  simp [hwf]

/-- In RUNNING and not DOWN, an access to a window goes on to the checks of that window. -/
theorem newAccess_of_lookup {a : Access} {s : State} {n : Fin 16} {w : Window} (hrun : s.bridge.state = .running)
    (hup : s.rack.state ≠ .down) (hlook : s.windows.lookup a.address = some (n, w)) :
    newAccess a s = throughWindow a n w s := by
  simp [newAccess, hrun, hup, hlook]

/-- A READ, EXCHANGE or WRITE that a CONFIRMED window of another slot permits is captured (R58, R59). -/
theorem throughWindow_of_confirmed {a : Access} {n : Fin 16} {w : Window} {s : State} (hslot : w.slot ≠ s.rack.ownSlot)
    (hwrite : a.kind = .write → w.mode = .confirmed) (hexch : a.kind = .exchange → w.exchange = true) :
    throughWindow a n w s = capture a n w s := by
  rw [throughWindow, if_neg hslot]
  cases hk : a.kind with
  | read => simp [route, hk]
  | write => simp [route, hk, hwrite hk]
  | exchange => simp [route, hk, hexch hk]

/-! ## The entry a capture takes (R5 to R7) -/

/-- The index list holds index i at place i. -/
@[simp] theorem getElem_eight (i : Nat) (h : i < eight.length) : eight[i] = ⟨i, h⟩ := by
  have hall : ∀ k : Fin 8, eight[k.val]'k.isLt = k := by decide
  exact hall ⟨i, h⟩

/-- A FREE entry below which none is FREE is the one that a capture takes. -/
theorem firstFree_eq_some {d : Dtt} {m : Fin 8} (hfree : d.entry m = none)
    (hlow : ∀ k : Fin 8, k < m → (d.entry k).isSome = true) : d.firstFree = some m := by
  refine List.find?_eq_some_iff_getElem.2 ⟨by simp [hfree], m.val, m.isLt, getElem_eight _ _, fun j hj => ?_⟩
  have hsome := hlow ⟨j, hj.trans m.isLt⟩ hj
  rw [getElem_eight]
  simpa using hsome

/-- The write data of an access that carries as many bytes as its size. -/
theorem writeData_of_dataFits {a : Access} (h : a.dataFits = true) :
    a.writeData = if a.kind = .read then [] else a.data := by
  unfold Access.writeData
  cases hk : a.kind with
  | read => rfl
  | write | exchange =>
    have hlen : a.data.length = a.size := by simpa [Access.dataFits, hk] using h
    simp [← hlen]

/-- A capture sets its entry, lengthens the capture order, and puts an entry with nothing ahead of it on the ready list. -/
theorem captureAt_eq (m : Fin 8) (e : Entry) (s : State) :
    captureAt m e s = { s with
      dtt := { s.dtt with
        entries := s.dtt.entries.set m.val (some e) m.isLt
        order := s.dtt.order ++ [m] }
      arbiter := { s.arbiter with
        ready := if e.phase = .waiting 0 then s.arbiter.ready ++ [.dtt m] else s.arbiter.ready } } := by
  unfold captureAt
  split <;> rfl

/-- A capture into the lowest-numbered FREE entry is answered RETRY. -/
theorem capture_of_free {a : Access} {n : Fin 16} {w : Window} {s : State} {m : Fin 8} (hfree : s.dtt.entry m = none)
    (hlow : ∀ k : Fin 8, k < m → (s.dtt.entry k).isSome = true) :
    capture a n w s = (captureAt m (capturedEntry a n w s.pwq.items.length) s).reply .retry := by
  rw [capture, firstFree_eq_some hfree hlow]

/-- A capture with no entry FREE is answered RETRY, counted in CAPTURE-REFUSED, and raises FULL. -/
theorem capture_of_full {a : Access} {n : Fin 16} {w : Window} {s : State}
    (hfull : ∀ m : Fin 8, (s.dtt.entry m).isSome = true) :
    capture a n w s = (raise .full (bump .captureRefused 1 s)).reply .retry := by
  rw [capture, (firstFree_eq_none s.dtt).2 hfull]

/-- Settles O20: the access passes steps 1 to 6 and is captured; the table has a lowest FREE entry, or is full. -/
theorem captureTakesTheLowestFreeEntry : Obligations.CaptureTakesTheLowestFreeEntry := by
  intro a s n w hlive hwf hfits hun hrun hup hlook hslot hwrite hexch
  have hcapture : exec (.windowSelectAccess a) s = .next (capture a n w s) := by
    rw [exec_windowSelectAccess_unmatched hlive hwf hun, newAccess_of_lookup hrun hup hlook,
      throughWindow_of_confirmed hslot hwrite hexch]
  refine ⟨fun m hfree hlow => ?_, fun hfull => ?_⟩
  · rw [hcapture, capture_of_free hfree hlow, captureAt_eq]
    simp only [capturedEntry, writeData_of_dataFits hfits, Phase.waiting.injEq]
    rfl
  · rw [hcapture, capture_of_full hfull]
    rfl

/-! ## The outcome of an ISSUED entry (R10 to R12)

One equation per outcome: an ISSUED entry is completed, fails, or is judged by the BUSY rule. -/

section IssuedEntry

variable {s : State} {n : Fin 8} {e : Entry} (hentry : s.dtt.entry n = some e) (hissued : e.phase = .issued)
include hentry hissued

theorem handOutcome_dtt_accept (data : List Byte) :
    handOutcome (.dtt n) (.accept data) s = complete n e (.ok (e.kind.readData data)) s := by
  simp [handOutcome, entryOutcome, hentry, hissued]

theorem handOutcome_dtt_busy : handOutcome (.dtt n) .busy s = busyEntry n e s := by
  simp [handOutcome, entryOutcome, hentry, hissued]

theorem handOutcome_dtt_reject : handOutcome (.dtt n) .reject s = failEntry n e .rejected .rejected s := by
  simp [handOutcome, entryOutcome, hentry, hissued]

theorem handOutcome_dtt_noAnswer : handOutcome (.dtt n) .noAnswer s = failEntry n e .noAnswer .noAnswer s := by
  simp [handOutcome, entryOutcome, hentry, hissued]

theorem handOutcome_dtt_malformed : handOutcome (.dtt n) .malformed s = failEntry n e .malformed .malformed s := by
  simp [handOutcome, entryOutcome, hentry, hissued]

end IssuedEntry

/-- BUSY for the head IN-FLIGHT is decided by the PWQ's rule for it. -/
theorem handOutcome_posted_busy {s : State} {h : Item} {tl : List Item} (hitems : s.pwq.items = h :: tl)
    (hflight : h.cond = .inFlight) : handOutcome .posted .busy s = busyHead h s := by
  simp [handOutcome, headOutcome, hitems, hflight]

/-- An ACCEPT's payload is the read data of every kind but CWRITE (R10). -/
theorem readData_eq (k : TxnKind) (data : List Byte) : k.readData data = if k = .cwrite then [] else data := by
  cases k <;> rfl

/-- Settles O43: each final outcome is a completion of the entry, on a failure with its error. -/
theorem finalOutcomeCompletesTheEntry : Obligations.FinalOutcomeCompletesTheEntry := by
  intro s n e hentry hissued
  refine ⟨fun data => ?_, ?_, ?_, ?_⟩
  · rw [handOutcome_dtt_accept hentry hissued, readData_eq]
    rfl
  · exact handOutcome_dtt_reject hentry hissued
  · exact handOutcome_dtt_noAnswer hentry hissued
  · exact handOutcome_dtt_malformed hentry hissued

/-! ## The deferral unit (R130) -/

/-- Another attempt is allowed with no limit, or below the budget. -/
theorem mayRetry_iff (budget : BitVec 4) (attempts : Nat) :
    mayRetry budget attempts = true ↔ budget = 0 ∨ attempts < budget.toNat := by
  simp [mayRetry]

/-- At a budget that is a limit no other attempt is allowed. -/
theorem mayRetry_at_budget {budget : BitVec 4} {attempts : Nat} (hlimit : budget ≠ 0) (hspent : attempts = budget.toNat) :
    ¬ mayRetry budget attempts = true := by
  rw [mayRetry_iff]
  exact not_or.2 ⟨hlimit, hspent.not_lt⟩

/-- BUSY defers an entry that may try again. -/
theorem busyEntry_of_mayRetry {n : Fin 8} {e : Entry} (s : State) (hretry : mayRetry e.budget e.attempts = true) :
    busyEntry n e s =
      setEntry n (some { e with phase := .deferred (deferralTicks e.step e.attempts) }) (bump .busySeen 1 s) :=
  if_pos hretry

/-- BUSY exhausts an entry that may not. -/
theorem busyEntry_of_exhausted {n : Fin 8} {e : Entry} (s : State) (hspent : ¬ mayRetry e.budget e.attempts = true) :
    busyEntry n e s = failEntry n e .exhausted .exhausted (bump .busySeen 1 s) :=
  if_neg hspent

/-- BUSY defers a head that may try again. -/
theorem busyHead_of_mayRetry {h : Item} (s : State) (hretry : mayRetry h.budget h.attempts = true) :
    busyHead h s = setHead { h with cond := .deferred (deferralTicks h.step h.attempts) } (bump .busySeen 1 s) :=
  if_pos hretry

/-- BUSY drops a head that may not. -/
theorem busyHead_of_exhausted {h : Item} (s : State) (hspent : ¬ mayRetry h.budget h.attempts = true) :
    busyHead h s = dropHead h .exhausted (bump .busySeen 1 s) :=
  if_neg hspent

/-- Settles O45: for the entry and for the head, the deferral unit allows another attempt, or the budget is spent. -/
theorem busyDefersOrExhausts : Obligations.BusyDefersOrExhausts := by
  refine ⟨fun s n e hentry hissued => ⟨fun hmore => ?_, fun hlimit hspent => ?_⟩,
    fun s h tl hitems hflight => ⟨fun hmore => ?_, fun hlimit hspent => ?_⟩⟩
  · rw [handOutcome_dtt_busy hentry hissued, busyEntry_of_mayRetry s ((mayRetry_iff _ _).2 hmore)]
    rfl
  · rw [handOutcome_dtt_busy hentry hissued, busyEntry_of_exhausted s (mayRetry_at_budget hlimit hspent)]
    rfl
  · rw [handOutcome_posted_busy hitems hflight, busyHead_of_mayRetry s ((mayRetry_iff _ _).2 hmore), setHead, bump_pwq,
      hitems]
    rfl
  · rw [handOutcome_posted_busy hitems hflight, busyHead_of_exhausted s (mayRetry_at_budget hlimit hspent), dropHead,
      itemError]
    cases h.kind <;> rfl

end Sys2Proof.Machine
end

section
/-! SUPPORT. The posted write queue: what joins its tail and how, which status SEND gives, and how a final outcome retires
the head. -/

namespace Sys2Proof.Machine

/-! ## The tail of the queue (R33, R34) -/

/-- A new item goes behind the others; at the head of an empty queue it is READY, and P joins the ready list. -/
theorem appendItem_eq (i : Item) (s : State) :
    appendItem i s = { s with
      pwq := { s.pwq with
        items := s.pwq.items ++ [{ i with cond := if s.pwq.items = [] then .ready else .queued }] }
      arbiter := { s.arbiter with
        ready := if s.pwq.items = [] then s.arbiter.ready ++ [.posted] else s.arbiter.ready } } := by
  obtain ⟨hempty, happend⟩ | ⟨hheld, happend⟩ := appendItem_cases i s
  · rw [happend, if_pos hempty, if_pos hempty, hempty]
    rfl
  · rw [happend, if_neg hheld, if_neg hheld]

/-! ## Acceptance of a posted write (R34 to R36) -/

/-- A WRITE through a POSTED window of another slot goes to the PWQ (R58, R59). -/
theorem throughWindow_of_posted {a : Access} {n : Fin 16} {w : Window} {s : State} (hslot : w.slot ≠ s.rack.ownSlot)
    (hwrite : a.kind = .write) (hmode : w.mode = .posted) : throughWindow a n w s = accept a n w s := by
  simp [throughWindow, route, hslot, hwrite, hmode]

/-- With fewer than 32 items held, the write becomes an item and is answered DONE (R34). -/
theorem accept_of_room {a : Access} {n : Fin 16} {w : Window} {s : State} (hroom : s.pwq.items.length < 32) :
    accept a n w s = (appendItem (postedItem a n w) s).reply (.done .nothing) :=
  if_pos hroom

/-- With 32 items held, the write is answered RETRY, counted in POST-REFUSED, and raises FULL (R35). -/
theorem accept_of_full {a : Access} {n : Fin 16} {w : Window} {s : State} (hfull : 32 ≤ s.pwq.items.length) :
    accept a n w s = (raise .full (bump .postRefused 1 s)).reply .retry :=
  if_neg hfull.not_gt

/-- Settles O21: the access passes steps 1 to 6 and is routed to the PWQ, which has room for it or is full. -/
theorem postedWriteJoinsTheQueue : Obligations.PostedWriteJoinsTheQueue := by
  intro a s n w hlive hwf hfits hun hrun hup hlook hslot hwrite hmode
  have haccept : exec (.windowSelectAccess a) s = .next (accept a n w s) := by
    rw [exec_windowSelectAccess_unmatched hlive hwf hun, newAccess_of_lookup hrun hup hlook,
      throughWindow_of_posted hslot hwrite hmode]
  refine ⟨fun hroom => ?_, fun hfull => ?_⟩
  · have hdata : a.writeData = a.data := by simp [writeData_of_dataFits hfits, hwrite]
    rw [haccept, accept_of_room hroom, appendItem_eq, postedItem, hdata]
    rfl
  · rw [haccept, accept_of_full hfull]
    rfl

/-! ## SEND (R38, R39) -/

/-- A message length is good when it is a multiple of 4 from 4 to 32. -/
theorem goodLength_iff (n : Nat) : goodLength n = true ↔ n % 4 = 0 ∧ 4 ≤ n ∧ n ≤ 32 := by
  simp [goodLength, and_assoc]

/-- With CRST released, SEND has its effect and is answered DONE. -/
theorem exec_send {s : State} (hlive : s.live) : exec .send s = .next ((sendOp s).reply (.done .nothing)) :=
  registerStep_live sendOp hlive

/-- A SEND that a check refuses sets the send status alone. -/
theorem sendOp_of_refused {s : State} {v : SendStatus} (hverdict : sendVerdict s = v) (hrefused : v ≠ .queued) :
    sendOp s = setSendStatus v s := by
  rw [sendOp, hverdict, if_neg hrefused]

/-- A SEND that passes every check appends the composed message and sets the send status to QUEUED. -/
theorem sendOp_of_queued {s : State} (hverdict : sendVerdict s = .queued) :
    sendOp s = setSendStatus .queued (appendItem (composedItem s.compose) s) := by
  rw [sendOp, hverdict, if_pos rfl]

/-! One equation per check, in the order of R38: each supposes that the checks before it passed. -/

section Verdict

variable {s : State}

theorem sendVerdict_state (hrun : s.bridge.state ≠ .running) : sendVerdict s = .state :=
  if_pos hrun

variable (hrun : s.bridge.state = .running)
include hrun

theorem sendVerdict_rackDown (hdown : s.rack.state = .down) : sendVerdict s = .rackDown := by
  simp [sendVerdict, hrun, hdown]

variable (hup : s.rack.state ≠ .down)
include hup

theorem sendVerdict_self (hself : s.compose.destination = s.rack.ownSlot) : sendVerdict s = .self := by
  simp [sendVerdict, hrun, hup, hself]

variable (hother : s.compose.destination ≠ s.rack.ownSlot)
include hother

theorem sendVerdict_badLength (hbad : ¬ goodLength s.compose.length.toNat = true) : sendVerdict s = .badLength := by
  simp [sendVerdict, hrun, hup, hother, hbad]

variable (hgood : goodLength s.compose.length.toNat = true)
include hgood

theorem sendVerdict_full (hfull : 32 ≤ s.pwq.items.length) : sendVerdict s = .full := by
  simp [sendVerdict, hrun, hup, hother, hgood, Config.pwqDepth, hfull]

theorem sendVerdict_queued (hroom : s.pwq.items.length < 32) : sendVerdict s = .queued := by
  simp [sendVerdict, hrun, hup, hother, hgood, Config.pwqDepth, hroom.not_ge]

end Verdict

/-- Settles O32: each check in turn decides the verdict, and the verdict decides the effect of SEND. -/
theorem sendIsDecidedByItsChecks : Obligations.SendIsDecidedByItsChecks := by
  intro s hlive c status
  have hrefused (v : SendStatus) (hv : v ≠ .queued) (hverdict : sendVerdict s = v) :
      exec .send s = .next (status v) := by
    rw [exec_send hlive, sendOp_of_refused hverdict hv]
    rfl
  refine ⟨fun hrun => hrefused _ (by decide) (sendVerdict_state hrun),
    fun hrun hdown => hrefused _ (by decide) (sendVerdict_rackDown hrun hdown),
    fun hrun hup hself => hrefused _ (by decide) (sendVerdict_self hrun hup hself),
    fun hrun hup hother hlen => ?badLength, fun hrun hup hother hmul hmin hmax => ?goodLength⟩
  case badLength =>
    have hbad : ¬ goodLength c.length.toNat = true := by rw [goodLength_iff]; omega
    exact hrefused _ (by decide) (sendVerdict_badLength hrun hup hother hbad)
  case goodLength =>
    have hgood : goodLength c.length.toNat = true := (goodLength_iff _).2 ⟨hmul, hmin, hmax⟩
    refine ⟨fun hfull => hrefused _ (by decide) (sendVerdict_full hrun hup hother hgood hfull), fun hroom => ?_⟩
    rw [exec_send hlive, sendOp_of_queued (sendVerdict_queued hrun hup hother hgood hroom), appendItem_eq]
    rfl

/-! ## Final outcomes of the head (R43, R45) -/

section HeadInFlight

variable {s : State} {h : Item} {tl : List Item} (hitems : s.pwq.items = h :: tl) (hflight : h.cond = .inFlight)
include hitems hflight

theorem handOutcome_posted_accept (data : List Byte) : handOutcome .posted (.accept data) s = retire s := by
  simp [handOutcome, headOutcome, hitems, hflight]

theorem handOutcome_posted_reject : handOutcome .posted .reject s = dropHead h .rejected s := by
  simp [handOutcome, headOutcome, hitems, hflight]

theorem handOutcome_posted_noAnswer : handOutcome .posted .noAnswer s = dropHead h .noAnswer s := by
  simp [handOutcome, headOutcome, hitems, hflight]

theorem handOutcome_posted_malformed : handOutcome .posted .malformed s = dropHead h .malformed s := by
  simp [handOutcome, headOutcome, hitems, hflight]

end HeadInFlight

/-- Settles O44: ACCEPT retires the head, and each failure drops it with the error of its kind. -/
theorem finalOutcomeRetiresTheHead : Obligations.FinalOutcomeRetiresTheHead := by
  intro s h tl hitems hflight dropped error
  have hdrop (k : ErrorKind) : dropHead h k s = retire (captureError (error k) dropped) := rfl
  refine ⟨handOutcome_posted_accept hitems hflight, ?_, ?_, ?_⟩
  · rw [handOutcome_posted_reject hitems hflight, hdrop]
  · rw [handOutcome_posted_noAnswer hitems hflight, hdrop]
  · rw [handOutcome_posted_malformed hitems hflight, hdrop]

end Sys2Proof.Machine
end

section
/-! SUPPORT. The window table: the verdict of COMMIT, which entry a window command reaches, and what COMMIT makes of the
table. -/

namespace Sys2Proof.Machine

/-! ## The verdict of COMMIT (R63) -/

/-- A base passes the alignment check when it is a multiple of the window's size. -/
theorem alignedTo_iff (base : Addr) (sizeCode : BitVec 5) :
    alignedTo base sizeCode = true ↔ base.toNat % 2 ^ sizeCode.toNat = 0 :=
  beq_iff_eq

section Judge

variable {g : Window}

/-- A size code outside 12 to 30 is BAD-SIZE. -/
theorem judge_of_illegalSizeCode (hsize : g.sizeCode.toNat < 12 ∨ 30 < g.sizeCode.toNat) : g.judge = .badSize :=
  if_pos (by simpa using hsize)

variable (hmin : 12 ≤ g.sizeCode.toNat) (hmax : g.sizeCode.toNat ≤ 30)
include hmin hmax

/-- With a legal size code, the verdict is that of the step and of the two bases. -/
theorem judge_of_legalSizeCode :
    g.judge =
      if g.step = 0 then .badSize
      else if !alignedTo g.localBase g.sizeCode then .badAlign
      else if !alignedTo g.targetBase g.sizeCode then .badAlign
      else .ok :=
  if_neg (by simpa using ⟨hmin, hmax⟩)

/-- A step of 0 is BAD-SIZE. -/
theorem judge_of_step_zero (hstep : g.step = 0) : g.judge = .badSize := by
  rw [judge_of_legalSizeCode hmin hmax, if_pos hstep]

variable (hstep : g.step ≠ 0)
include hstep

/-- With a legal size code and step, either base off its alignment is BAD-ALIGN. -/
theorem judge_of_misaligned
    (hbases : ¬ alignedTo g.localBase g.sizeCode = true ∨ ¬ alignedTo g.targetBase g.sizeCode = true) :
    g.judge = .badAlign := by
  rw [judge_of_legalSizeCode hmin hmax, if_neg hstep]
  obtain hlocal | htarget := hbases
  · simp [hlocal]
  · simp [htarget]

/-- A record that passes every check is OK. -/
theorem judge_of_legal (hlocal : alignedTo g.localBase g.sizeCode = true)
    (htarget : alignedTo g.targetBase g.sizeCode = true) : g.judge = .ok := by
  rw [judge_of_legalSizeCode hmin hmax, if_neg hstep]
  simp [hlocal, htarget]

end Judge

/-! ## The entry of a window command (R62) -/

section WindowCommand

variable (effect : Fin 16 → State → State) {s : State} {n : BitVec 8}

/-- With CRST released, a window command with an index up to 15 has its effect on that entry. -/
theorem windowCommand_live_of_lt (hlive : s.live) (hn : n.toNat < 16) :
    registerStep (windowCommand n effect) s = .next ((effect ⟨n.toNat, hn⟩ s).reply (.done .nothing)) := by
  rw [registerStep_live _ hlive, windowCommand, dif_pos hn]

/-- With CRST released, a window command with an index above 15 sets the status to BAD-INDEX, whatever its effect. -/
theorem windowCommand_live_of_ge (hlive : s.live) (hn : 16 ≤ n.toNat) :
    registerStep (windowCommand n effect) s =
      .next ((setWindowStatus .badIndex s).reply (.done .nothing)) := by
  rw [registerStep_live _ hlive, windowCommand, dif_neg hn.not_gt]

end WindowCommand

/-! ## COMMIT (R64) -/

/-- A COMMIT that a check refuses sets the window status alone. -/
theorem commitEntry_of_refused {n : Fin 16} {s : State} {v : WindowStatus} (hverdict : s.windows.staging.judge = v)
    (hrefused : v ≠ .ok) : commitEntry n s = setWindowStatus v s := by
  rw [commitEntry, hverdict, if_neg hrefused]

/-- A COMMIT that passes every check replaces the entry by the staging record. -/
theorem commitEntry_of_ok {n : Fin 16} {s : State} (hverdict : s.windows.staging.judge = .ok) :
    commitEntry n s = setWindowStatus .ok (setWindow n s.windows.staging s) := by
  rw [commitEntry, if_pos hverdict]

/-- Settles O29: each check in turn decides the verdict, the verdict decides the effect of COMMIT, and an index above 15
leaves no window command an effect. -/
theorem commitIsJudgedAndWhole : Obligations.CommitIsJudgedAndWhole := by
  refine ⟨?judged, ?badIndex⟩
  case judged =>
    intro s n h hlive g status
    have hexec : exec (.commit n) s = .next ((commitEntry ⟨n.toNat, h⟩ s).reply (.done .nothing)) :=
      windowCommand_live_of_lt commitEntry hlive h
    have hrefused (v : WindowStatus) (hv : v ≠ .ok) (hverdict : g.judge = v) :
        exec (.commit n) s = .next (status v) := by
      rw [hexec, commitEntry_of_refused hverdict hv]
      rfl
    refine ⟨fun hsize => hrefused _ (by decide) (judge_of_illegalSizeCode hsize),
      fun hmin hmax hstep => hrefused _ (by decide) (judge_of_step_zero hmin hmax hstep),
      fun hmin hmax hstep hbases => hrefused _ (by decide) (judge_of_misaligned hmin hmax hstep ?_),
      fun hmin hmax hstep hlocal htarget => ?_⟩
    · rwa [alignedTo_iff, alignedTo_iff]
    · have hverdict : g.judge = .ok :=
        judge_of_legal hmin hmax hstep ((alignedTo_iff _ _).2 hlocal) ((alignedTo_iff _ _).2 htarget)
      rw [hexec, commitEntry_of_ok hverdict]
      rfl
  case badIndex =>
    intro s n c hlive hn hc
    obtain rfl | rfl | rfl := hc
    · exact windowCommand_live_of_ge commitEntry hlive hn
    · exact windowCommand_live_of_ge loadEntry hlive hn
    · exact windowCommand_live_of_ge disableEntry hlive hn

end Sys2Proof.Machine
end

section
/-! SUPPORT. The local port: what makes an access well formed, what each step of the decision order before the windows
answers, and what a register-select access is answered. -/

namespace Sys2Proof.Machine

/-! ## Window-select accesses: step 1 (R76) -/

/-- The three conditions of a well-formed window-select access. -/
theorem access_wellFormed_iff (a : Access) :
    a.wellFormed = true ↔
      (a.size = 1 ∨ a.size = 2 ∨ a.size = 4 ∨ a.size = 8) ∧ a.address.toNat % a.size = 0 ∧
        (a.kind = .exchange → a.size = 4) := by
  simp [Access.wellFormed, or_assoc, and_assoc, imp_iff_not_or]

/-- The row WINDOW_SELECT_ACCESS is a window-select access at the local port. -/
theorem exec_windowSelectAccess (a : Access) (s : State) :
    exec (.windowSelectAccess a) s = localStep (windowSelect a) s := rfl

/-- A window-select access that is not well formed is refused at step 1, without a look at the rest of the state. -/
theorem windowSelect_of_malformed {a : Access} {s : State} (hbad : ¬ a.wellFormed = true) :
    windowSelect a s = faultWith (localError .misaligned a) s := by
  simp [windowSelect, hbad]

/-- Settles O16: each way to be malformed breaks one of the three conditions, and step 1 comes before all others. -/
theorem misalignedAccessAnsweredFault : Obligations.MisalignedAccessAnsweredFault := by
  refine ⟨access_wellFormed_iff, fun a s hlive hmalformed => ?_⟩
  have hbad : ¬ a.wellFormed = true := by
    rw [access_wellFormed_iff]
    rintro ⟨hsize, haligned, hexch⟩
    obtain hbadSize | hoff | ⟨hkind, hnot4⟩ := hmalformed
    · omega
    · exact hoff haligned
    · exact hnot4 (hexch hkind)
  rw [exec_windowSelectAccess, localStep_live _ hlive, windowSelect_of_malformed hbad]
  rfl

/-! ## Window-select accesses: steps 3 to 5, before the windows (R78 to R80) -/

/-- Every index is one of the sixteen. -/
theorem mem_windowIndices (n : Fin 16) : n ∈ windowIndices := by
  revert n; decide

/-- A lookup finds no window exactly when no enabled window contains the address (R56). -/
theorem lookup_eq_none (t : WindowTable) (x : Addr) :
    t.lookup x = none ↔ ∀ n : Fin 16, (t.entries.get n).contains x = false := by
  simp [WindowTable.lookup, mem_windowIndices]

section NewAccess

variable {a : Access} {s : State}

/-- In STOPPED a new access is refused as NOT-STARTED. -/
theorem newAccess_of_stopped (hstopped : s.bridge.state = .stopped) :
    newAccess a s = faultWith (localError .notStarted a) s := by
  rw [newAccess, hstopped]

/-- In DRAINING and in DRAINED a new access is told to come back. -/
theorem newAccess_of_closed (hclosed : s.bridge.state = .draining ∨ s.bridge.state = .drained) :
    newAccess a s = s.reply .retry := by
  obtain hdraining | hdrained := hclosed
  · rw [newAccess, hdraining]
  · rw [newAccess, hdrained]

/-- In RUNNING and DOWN a new access is refused as RACK-DOWN. -/
theorem newAccess_of_down (hrun : s.bridge.state = .running) (hdown : s.rack.state = .down) :
    newAccess a s = faultWith (localError .rackDown a) s := by
  simp [newAccess, hrun, hdown]

/-- In RUNNING and not DOWN, a new access that no enabled window contains is refused as NO-WINDOW. -/
theorem newAccess_of_noWindow (hrun : s.bridge.state = .running) (hup : s.rack.state ≠ .down)
    (hnone : ∀ n : Fin 16, (s.windows.entries.get n).contains a.address = false) :
    newAccess a s = faultWith (localError .noWindow a) s := by
  simp [newAccess, hrun, hup, (lookup_eq_none _ _).2 hnone]

end NewAccess

/-- Settles O18: the access passes steps 1 and 2, and the bridge state, the port state or the lookup refuses it. -/
theorem newAccessRefusedBeforeTheWindows : Obligations.NewAccessRefusedBeforeTheWindows := by
  intro a s hlive hwf hun
  rw [exec_windowSelectAccess_unmatched hlive hwf hun]
  refine ⟨fun hstopped => ?_, fun hclosed => ?_, fun hrun hdown => ?_, fun hrun hup hnone => ?_⟩
  · rw [newAccess_of_stopped hstopped]
    rfl
  · rw [newAccess_of_closed hclosed]
    rfl
  · rw [newAccess_of_down hrun hdown]
    rfl
  · rw [newAccess_of_noWindow hrun hup hnone]
    rfl

/-! ## Register-select accesses (R83, R84) -/

/-- The three conditions of a well-formed register-select access. -/
theorem regAccess_wellFormed_iff (a : RegAccess) :
    a.wellFormed = true ↔ a.kind ≠ .exchange ∧ a.size = 4 ∧ a.address.toNat % 4 = 0 := by
  simp [RegAccess.wellFormed, and_assoc]

/-- The row REGISTER_WRITE is a register-select access. -/
theorem exec_registerWrite (a : RegAccess) (s : State) :
    exec (.registerWrite a) s = localStep (registerSelect a) s := rfl

/-- The row MALFORMED_REGISTER_ACCESS is a register-select access. -/
theorem exec_malformedRegisterAccess (a : RegAccess) (s : State) :
    exec (.malformedRegisterAccess a) s = localStep (registerSelect a) s := rfl

section RegisterSelect

variable {a : RegAccess} {s : State}

/-- A register-select access that is not well formed is answered FAULT. -/
theorem registerSelect_of_malformed (hbad : ¬ a.wellFormed = true) : registerSelect a s = s.reply .fault := by
  simp [registerSelect, hbad]

/-- A well-formed register READ is answered DONE with the word at its offset. -/
theorem registerSelect_of_read (hwf : a.wellFormed = true) (hread : a.kind = .read) :
    registerSelect a s = s.reply (.done (.word (readOffset a.offset s))) := by
  simp [registerSelect, hwf, hread]

/-- A well-formed register WRITE has its effect and is answered DONE. -/
theorem registerSelect_of_write (hwf : a.wellFormed = true) (hwrite : a.kind = .write) :
    registerSelect a s = (writeOffset a.offset a.word s).reply (.done .nothing) := by
  simp [registerSelect, hwf, hwrite]

/-- Every well-formed register-select access is answered DONE. -/
theorem registerSelect_answer_done (hwf : a.wellFormed = true) :
    ∃ c : Carried, (registerSelect a s).answer = some (.done c) := by
  cases hkind : a.kind with
  | read => exact ⟨_, by rw [registerSelect_of_read hwf hkind, State.reply_answer]⟩
  | write => exact ⟨_, by rw [registerSelect_of_write hwf hkind, State.reply_answer]⟩
  | exchange => exact absurd hkind ((regAccess_wellFormed_iff a).1 hwf).1

end RegisterSelect

/-- Settles O13: with CRST released the three conditions decide between FAULT and DONE, and no rule reads the requester; with
CRST asserted the local port answers RETRY before it looks at the access. -/
theorem malformedRegisterAccessAnsweredFault : Obligations.MalformedRegisterAccessAnsweredFault := by
  refine ⟨fun a s hlive hmalformed => ?malformed, fun a s hlive hkind hsize haligned => ⟨?done, fun _ => rfl⟩,
    fun a s hcrst => ⟨?_, ?_⟩⟩
  case malformed =>
    have hbad : ¬ a.wellFormed = true := by
      rw [regAccess_wellFormed_iff]
      rintro ⟨hkind, hsize, haligned⟩
      obtain hexch | hnot4 | hoff := hmalformed
      · exact hkind hexch
      · exact hnot4 hsize
      · exact hoff haligned
    rw [exec_malformedRegisterAccess, localStep_live _ hlive, registerSelect_of_malformed hbad]
    rfl
  case done =>
    have hwf : a.wellFormed = true := (regAccess_wellFormed_iff a).2 ⟨hkind, hsize, haligned⟩
    obtain ⟨c, hdone⟩ := registerSelect_answer_done (s := s) hwf
    exact ⟨_, c, localStep_live _ hlive, hdone⟩
  · exact localStep_crst _ hcrst
  · exact localStep_crst _ hcrst

end Sys2Proof.Machine
end

section
/-! SUPPORT. The issue arbiter: what an ISSUE step makes of the front of the ready list, which record a tag matches, and how
a kept RESPONSE is classified. -/

namespace Sys2Proof.Machine

/-! ## When the arbiter issues (R89) -/

/-- With CRST released, ISSUE is the arbiter's turn on the state without outputs. -/
theorem exec_issue {s : State} (hlive : s.live) : exec .issue s = .next (issueOp s.quiet) :=
  blockStep_live issueOp hlive

/-- The three conditions of an issue. -/
theorem mayIssue_iff (s : State) :
    s.mayIssue = true ↔
      s.arbiter.ready ≠ [] ∧ s.rack.state = .online ∧ s.arbiter.inFlight.length < s.arbiter.issueCap.toNat := by
  simp [State.mayIssue, and_assoc]

/-- With one of the conditions missing, the arbiter's turn passes. -/
theorem issueOp_of_not_mayIssue {s : State} (hno : ¬ s.mayIssue = true) : issueOp s = s :=
  if_neg hno

/-- With the three conditions met, the front of the ready list is issued with the request of its record. -/
theorem issueOp_of_front {s : State} {o : Origin} {rest : List Origin} {r : Request} (honline : s.rack.state = .online)
    (hslot : s.arbiter.inFlight.length < s.arbiter.issueCap.toNat) (hfront : s.arbiter.ready = o :: rest)
    (hrequest : originRequest o s = some r) : issueOp s = issueOrigin o rest r s := by
  have hmay : s.mayIssue = true := (mayIssue_iff s).2 ⟨by simp [hfront], honline, hslot⟩
  rw [issueOp, if_pos hmay, hfront]
  simp [hrequest]

/-! ## The request of an origin's record (R95), and what its owner is told (R9, R42) -/

/-- The request of an entry, its payload by cases on READ. -/
theorem entryRequest_eq (e : Entry) :
    entryRequest e =
      { kind := e.kind.cellKind, dest := e.slot, address := e.targetAddr, count := e.size
        payload := if e.kind = .read then [] else e.data } := by
  rw [entryRequest]
  cases e.kind <;> rfl

/-- An entry's origin asks for the entry's request. -/
theorem originRequest_dtt {s : State} {n : Fin 8} {e : Entry} (hentry : s.dtt.entry n = some e) :
    originRequest (.dtt n) s = some (entryRequest e) := by
  simp [originRequest, hentry]

/-- The posted lane asks for the request of the head. -/
theorem originRequest_posted {s : State} {h : Item} {tl : List Item} (hitems : s.pwq.items = h :: tl) :
    originRequest .posted s = some (itemRequest h) := by
  simp [originRequest, hitems]

/-- An entry told of its issue is ISSUED, with one attempt more. -/
theorem tellIssued_dtt {s : State} {n : Fin 8} {e : Entry} (hentry : s.dtt.entry n = some e) :
    tellIssued (.dtt n) s = setEntry n (some { e with attempts := min (e.attempts + 1) 15, phase := .issued }) s := by
  simp [tellIssued, hentry, nextAttempts, Config.attemptsMax]

/-- A head told of its issue is IN-FLIGHT, with one attempt more. -/
theorem tellIssued_posted {s : State} {h : Item} {tl : List Item} (hitems : s.pwq.items = h :: tl) :
    tellIssued .posted s = { s with
      pwq := { s.pwq with items := { h with attempts := min (h.attempts + 1) 15, cond := .inFlight } :: tl } } := by
  simp [tellIssued, setHead, hitems, nextAttempts, Config.attemptsMax]

/-! ## Issuing the front (R94) -/

/-- The arbiter's own parts of an issue: the front leaves the ready list, its generation counter rises, its record joins the
in-flight set. -/
def frontTaken (o : Origin) (rest : List Origin) (r : Request) (s : State) : State :=
  { s with
    arbiter := { s.arbiter with
      ready := rest
      generations := s.arbiter.generations.set o.index.val (s.arbiter.generations.get o.index + 1) o.index.isLt
      inFlight := s.arbiter.inFlight ++ [issueRecord o (s.arbiter.generations.get o.index + 1) r s.arbiter] } }

/-- An issue is the arbiter's own parts, the word to the owner, and the request cell. -/
theorem issueOrigin_eq (o : Origin) (rest : List Origin) (r : Request) (s : State) :
    issueOrigin o rest r s = { tellIssued o (frontTaken o rest r s) with
      sent := some (requestFrame s.rack.ownSlot o (s.arbiter.generations.get o.index + 1) r) } := rfl

/-- With CRST released and the conditions met, ISSUE issues the front of the ready list. -/
theorem exec_issue_of_front {s : State} {o : Origin} {rest : List Origin} {r : Request} (hlive : s.live)
    (honline : s.rack.state = .online) (hslot : s.arbiter.inFlight.length < s.arbiter.issueCap.toNat)
    (hfront : s.arbiter.ready = o :: rest) (hrequest : originRequest o s.quiet = some r) :
    exec .issue s = .next (issueOrigin o rest r s.quiet) := by
  rw [exec_issue hlive, issueOp_of_front (s := s.quiet) honline hslot hfront hrequest]

/-- Settles O41: with the three conditions met the front's record gives its request and is issued, an entry or the head; with
one missing the turn passes. -/
theorem issueSendsTheFront : Obligations.IssueSendsTheFront := by
  refine ⟨fun s n e rest hlive honline hslot hfront hentry => ?entry,
    fun s h tl rest hlive honline hslot hfront hitems => ?head, fun s hlive hmissing => ?missing⟩
  case entry =>
    have hrequest : originRequest (.dtt n) s.quiet = some (entryRequest e) := originRequest_dtt hentry
    rw [exec_issue_of_front hlive honline hslot hfront hrequest, issueOrigin_eq,
      tellIssued_dtt (s := frontTaken (.dtt n) rest _ s.quiet) hentry, entryRequest_eq]
    rfl
  case head =>
    have hrequest : originRequest .posted s.quiet = some (itemRequest h) := originRequest_posted hitems
    rw [exec_issue_of_front hlive honline hslot hfront hrequest, issueOrigin_eq,
      tellIssued_posted (s := frontTaken .posted rest _ s.quiet) hitems, itemRequest]
    cases h.kind <;> rfl
  case missing =>
    have hno : ¬ s.quiet.mayIssue = true := by
      rw [mayIssue_iff]
      rintro ⟨hready, honline, hslot⟩
      obtain hempty | hoffline | hfull := hmissing
      · exact hready hempty
      · exact hoffline honline
      · exact hfull.not_gt hslot
    rw [exec_issue hlive, issueOp_of_not_mayIssue hno]
    rfl

/-! ## The record that a tag matches (R98) -/

/-- Two origins with the same number in a tag are the same origin. -/
theorem origin_number_injective : Function.Injective Origin.number := by
  have hdtt : ∀ n m : Fin 8, (Origin.dtt n).number = (Origin.dtt m).number → n = m := by decide
  have hposted : ∀ n : Fin 8, (Origin.dtt n).number ≠ Origin.posted.number := by decide
  intro o p h
  cases o with
  | dtt n =>
    cases p with
    | dtt m => rw [hdtt n m h]
    | posted => exact absurd h (hposted n)
  | posted =>
    cases p with
    | dtt m => exact absurd h.symm (hposted m)
    | posted => rfl

/-- A tag matches no record exactly when no record carries it. -/
theorem arbiter_matching_eq_none_iff (a : Arbiter) (origin gen : BitVec 4) :
    a.matching origin gen = none ↔ ∀ q ∈ a.inFlight, ¬ (q.origin.number = origin ∧ q.gen = gen) := by
  simp [Arbiter.matching]

/-- The record that a tag matches is in flight and carries the tag. -/
theorem arbiter_matching_sound {a : Arbiter} {origin gen : BitVec 4} {q : InFlight}
    (h : a.matching origin gen = some q) : q ∈ a.inFlight ∧ q.origin.number = origin ∧ q.gen = gen :=
  ⟨List.mem_of_find?_eq_some h, by simpa using List.find?_some h⟩

/-- With one record per origin, a tag matches the record that carries it. -/
theorem arbiter_matching_of_mem {a : Arbiter} {r : InFlight} (hone : (a.inFlight.map InFlight.origin).Nodup)
    (hmem : r ∈ a.inFlight) : a.matching r.origin.number r.gen = some r := by
  cases hmatch : a.matching r.origin.number r.gen with
  | none => exact absurd ⟨rfl, rfl⟩ ((arbiter_matching_eq_none_iff _ _ _).1 hmatch r hmem)
  | some q =>
    obtain ⟨hq, hnumber, -⟩ := arbiter_matching_sound hmatch
    rw [List.inj_on_of_nodup_map hone hq hmem (origin_number_injective hnumber)]

/-! ## The table of R98 -/

section Classify

variable (r : InFlight) (p : List Byte)

/-- Code 0 for a record whose request returns data: ACCEPT when the payload has the size asked for. -/
theorem classify_zero_of_returns (hreturns : r.kind = .read ∨ r.kind = .exchange) :
    classify 0 p r = if p.length = r.size then .accept p else .malformed := by
  obtain hread | hexch := hreturns
  · simp [classify, hread]
  · simp [classify, hexch]

/-- Code 0 for a record whose request returns nothing: ACCEPT when the payload is empty. -/
theorem classify_zero_of_not_returns (hnot : ¬ (r.kind = .read ∨ r.kind = .exchange)) :
    classify 0 p r = if p = [] then .accept [] else .malformed := by
  cases hkind : r.kind with
  | read => exact absurd (.inl hkind) hnot
  | exchange => exact absurd (.inr hkind) hnot
  | write | message => simp [classify, hkind]

/-- Code 1, BUSY, carries no payload. -/
theorem classify_one : classify 1 p r = if p = [] then .busy else .malformed := by
  simp [classify]

/-- Code 2, REJECT, carries no payload. -/
theorem classify_two : classify 2 p r = if p = [] then .reject else .malformed := by
  simp [classify]

/-- The codes from 3 on are no answers. -/
theorem classify_of_three_le {code : BitVec 3} (hcode : 3 ≤ code.toNat) : classify code p r = .malformed := by
  have h0 : code ≠ 0 := by rintro rfl; contradiction
  have h1 : code ≠ 1 := by rintro rfl; contradiction
  have h2 : code ≠ 2 := by rintro rfl; contradiction
  rw [classify, if_neg h0, if_neg h1, if_neg h2]

end Classify

/-! ## A kept RESPONSE (R98, R99, R120) -/

section KeptResponse

variable {f : List Byte} {s : State}

/-- A kept cell of type RESPONSE goes to the arbiter. -/
theorem receive_of_kept_response (hkeeps : s.keeps f) (htype : frameType f = 2) :
    receive f s = response (frameOrigin f) (frameGen f) (frameCode f) (framePayload f) s := by
  obtain ⟨hup, hwhole, hdest⟩ := hkeeps
  simp [receive, hup, hwhole, hdest, htype]

/-- With CRST released, CELL_RECEPTION of a kept RESPONSE is the arbiter's rule for it on the state without outputs. -/
theorem exec_cellReception_of_kept_response (hlive : s.live) (hkeeps : s.keeps f) (htype : frameType f = 2) :
    exec (.cellReception f) s =
      .next (response (frameOrigin f) (frameGen f) (frameCode f) (framePayload f) s.quiet) := by
  have hexec : exec (.cellReception f) s = blockStep (receive f) s := rfl
  rw [hexec, blockStep_live _ hlive, receive_of_kept_response (s := s.quiet) hkeeps htype]

/-- A response whose tag matches a record is classified against it and handed to its origin, the record removed. -/
theorem response_of_matched {r : InFlight} {origin gen : BitVec 4} (code : BitVec 3) (p : List Byte)
    (hmatch : s.arbiter.matching origin gen = some r) :
    response origin gen code p s = handOutcome r.origin (classify code p r) (removeRecord r.origin s) := by
  rw [response, hmatch]

/-- A response whose tag matches no record is a stray. -/
theorem response_of_stray {origin gen : BitVec 4} (code : BitVec 3) (p : List Byte)
    (hmatch : s.arbiter.matching origin gen = none) :
    response origin gen code p s = raise .stray (bump .stray 1 s) := by
  rw [response, hmatch]

end KeptResponse

/-- Settles O42: the tag finds the one record that carries it, and the table of R98 gives the outcome handed on; or it finds
none, and the cell is a stray. -/
theorem responseIsMatchedByItsTagAlone : Obligations.ResponseIsMatchedByItsTagAlone := by
  refine ⟨fun f s r hlive hkeeps htype hone hmem horigin hgen => ?matched, fun f s hlive hkeeps htype hnone => ?stray⟩
  case matched =>
    intro freed returns p
    have hmatch : s.quiet.arbiter.matching (frameOrigin f) (frameGen f) = some r := by
      rw [← horigin, ← hgen]
      exact arbiter_matching_of_mem hone hmem
    have hexec (c : CellOutcome) (hclass : classify (frameCode f) p r = c) :
        exec (.cellReception f) s = .next (handOutcome r.origin c freed) := by
      rw [exec_cellReception_of_kept_response hlive hkeeps htype, response_of_matched _ _ hmatch, hclass]
      rfl
    refine ⟨fun hcode hreturns hsize => hexec _ ?_, fun hcode hreturns hsize => hexec _ ?_,
      fun hcode hnot hempty => hexec _ ?_, fun hcode hnot hfull => hexec _ ?_, fun hcode hempty => hexec _ ?_,
      fun hcode hempty => hexec _ ?_, fun hcode hfull => hexec _ ?_, fun hcode => hexec _ (classify_of_three_le r p hcode)⟩
    · rw [hcode, classify_zero_of_returns r p hreturns, if_pos hsize]
    · rw [hcode, classify_zero_of_returns r p hreturns, if_neg hsize]
    · rw [hcode, classify_zero_of_not_returns r p hnot, if_pos hempty]
    · rw [hcode, classify_zero_of_not_returns r p hnot, if_neg hfull]
    · rw [hcode, classify_one, if_pos hempty]
    · rw [hcode, classify_two, if_pos hempty]
    · obtain hbusy | hreject := hcode
      · rw [hbusy, classify_one, if_neg hfull]
      · rw [hreject, classify_two, if_neg hfull]
  case stray =>
    have hmatch : s.quiet.arbiter.matching (frameOrigin f) (frameGen f) = none :=
      (arbiter_matching_eq_none_iff _ _ _).2 hnone
    rw [exec_cellReception_of_kept_response hlive hkeeps htype, response_of_stray _ _ hmatch]
    rfl

end Sys2Proof.Machine
end

section
/-! SUPPORT. Reception at the rack port: which cells are damaged, and what the checks before the rules for a kept cell do
with a cell. -/

namespace Sys2Proof.Machine

/-! ## Damage (R115, R118) -/

/-- The long header is that of the request codes below 3. -/
theorem frameHeader_eq (f : List Byte) :
    frameHeader f = if frameType f = 1 ∧ (frameCode f).toNat < 3 then 8 else 4 :=
  if_congr (and_congr_right' Nat.lt_succ_iff.symm) rfl rfl

/-- The length that a cell's own fields give it: header, payload and check code. -/
theorem frameLength_eq (f : List Byte) :
    frameLength f =
      (if frameType f = 1 ∧ (frameCode f).toNat < 3 then 8 else 4) +
        (if frameType f = 1 ∧ frameCode f = 0 then 0 else frameCount f) + 2 := by
  rw [frameLength, frameHeader_eq]
  rfl

/-- A cell is damaged exactly when one of the checks of R118 fails. -/
theorem damaged_iff (f : List Byte) :
    damaged f = true ↔
      f.length < 6 ∨ 38 < f.length ∨
        checkCode (f.take (f.length - 2)) ≠ frameByte f (f.length - 2) ++ frameByte f (f.length - 1) ∨
        frameType f = 0 ∨ frameType f = 3 ∨ 32 < frameCount f ∨ f.length ≠ frameLength f := by
  simp only [damaged, Bool.or_eq_true, decide_eq_true_eq, or_assoc]
  rfl

/-! ## The checks of reception, in order (R105, R118, R119) -/

/-- With CRST released, CELL_RECEPTION is the rack port's rule for a cell on the state without outputs. -/
theorem exec_cellReception {s : State} (f : List Byte) (hlive : s.live) :
    exec (.cellReception f) s = .next (receive f s.quiet) :=
  blockStep_live (receive f) hlive

section Receive

variable {f : List Byte} {s : State}

/-- In DOWN the port ignores every cell. -/
theorem receive_of_down (hdown : s.rack.state = .down) : receive f s = s :=
  if_pos hdown

/-- Out of DOWN a damaged cell is counted and goes no further. -/
theorem receive_of_damaged (hup : s.rack.state ≠ .down) (hdamaged : damaged f = true) :
    receive f s = bump .cellErr 1 s := by
  rw [receive, if_neg hup, if_pos hdamaged]

/-- The port ignores an undamaged cell for another slot. -/
theorem receive_of_otherSlot (hup : s.rack.state ≠ .down) (hwhole : damaged f = false)
    (hother : frameDest f ≠ s.rack.ownSlot) : receive f s = s := by
  rw [receive, if_neg hup, hwhole, if_neg Bool.false_ne_true, if_pos hother]

end Receive

/-- Settles O48: each clause is one check of reception, in the order in which the port makes them. -/
theorem receptionFiltersCells : Obligations.ReceptionFiltersCells := by
  intro f s hlive
  rw [exec_cellReception f hlive]
  refine ⟨fun hdown => ?down, fun hup hchecks => ?damaged, fun hup hwhole hother => ?otherSlot⟩
  case down =>
    rw [receive_of_down (s := s.quiet) hdown]
    rfl
  case damaged =>
    rw [← frameLength_eq] at hchecks
    have hdamaged : damaged f = true := (damaged_iff f).2 hchecks
    rw [receive_of_damaged (s := s.quiet) hup hdamaged]
    rfl
  case otherSlot =>
    rw [receive_of_otherSlot (s := s.quiet) hup hwhole hother]
    rfl

end Sys2Proof.Machine
end

section
/-! SUPPORT. Arrivals at the inbound message queue: the answer of each check, what an arrival makes of the state, and the
reception of a kept MESSAGE. -/

namespace Sys2Proof.Machine

/-! ## The answer (R149)

One equation per check, in the order of R149: each supposes that the checks before it passed. -/

section Answer

variable {q : Imq} {sender : Slot} {n : Nat}

theorem arrivalAnswer_disabled (hoff : q.enable = false) : arrivalAnswer q sender n = .reject := by
  simp [arrivalAnswer, hoff]

/-- A bad length is rejected whether the queue is enabled or not. -/
theorem arrivalAnswer_badLength (hbad : ¬ goodLength n = true) : arrivalAnswer q sender n = .reject := by
  simp [arrivalAnswer, hbad]

variable (hon : q.enable = true) (hgood : goodLength n = true)
include hon hgood

/-- A sender at its quota, or a full queue, is told BUSY. -/
theorem arrivalAnswer_busy (hfull : q.quota.toNat ≤ q.count sender ∨ 32 ≤ q.messages.length) :
    arrivalAnswer q sender n = .busy := by
  obtain hquota | hroom := hfull
  · simp [arrivalAnswer, hon, hgood, hquota]
  · simp [arrivalAnswer, hon, hgood, Config.imqDepth, hroom]

theorem arrivalAnswer_accept (hquota : q.count sender < q.quota.toNat) (hroom : q.messages.length < 32) :
    arrivalAnswer q sender n = .accept := by
  simp [arrivalAnswer, hon, hgood, Config.imqDepth, hquota.not_ge, hroom.not_ge]

end Answer

/-! ## The effect (R150, R151) -/

section Effect

variable {sender : Slot} {p : List Byte} {s : State}

/-- An arrival answered BUSY or REJECT counts and raises IMQ-REFUSED. -/
theorem arrival_of_refused (hrefused : arrivalAnswer s.imq sender p.length ≠ .accept) :
    arrival sender p s = raise .imqRefused (bump .imqRefused 1 s) := by
  unfold arrival
  split
  · exact absurd ‹_› hrefused
  · rfl
  · rfl

/-- An arrival answered ACCEPT is stored. -/
theorem arrival_of_accepted (haccept : arrivalAnswer s.imq sender p.length = .accept) :
    arrival sender p s = { s with imq := storeMessage sender p s.imq } := by
  rw [arrival, haccept]

end Effect

/-! ## A kept MESSAGE (R117, R121) -/

section KeptMessage

variable {f : List Byte} {s : State}

/-- A kept cell of type REQUEST goes to the inbound rules. -/
theorem receive_of_kept_request (hkeeps : s.keeps f) (htype : frameType f = 1) : receive f s = inboundRequest f s := by
  obtain ⟨hup, hwhole, hdest⟩ := hkeeps
  simp [receive, hup, hwhole, hdest, htype]

/-- A MESSAGE is offered to the IMQ, and the IMQ's answer goes back. -/
theorem inboundRequest_of_message (hcode : frameCode f = 3) :
    inboundRequest f s =
      answerRequest f (arrivalAnswer s.imq (frameSource f) (framePayload f).length)
        (arrival (frameSource f) (framePayload f) s) :=
  if_pos hcode

variable (hlive : s.live) (hkeeps : s.keeps f) (htype : frameType f = 1) (hcode : frameCode f = 3)
include hlive hkeeps htype hcode

/-- With CRST released, CELL_RECEPTION of a kept MESSAGE is the arrival and its answer on the state without outputs. -/
theorem exec_cellReception_of_kept_message :
    exec (.cellReception f) s =
      .next (answerRequest f (arrivalAnswer s.imq (frameSource f) (framePayload f).length)
        (arrival (frameSource f) (framePayload f) s.quiet)) := by
  rw [exec_cellReception f hlive, receive_of_kept_request (s := s.quiet) hkeeps htype, inboundRequest_of_message hcode]
  rfl

/-- A refused MESSAGE is answered with the IMQ's answer, counts, and raises IMQ-REFUSED. -/
theorem exec_cellReception_of_refused_message {a : TargetAnswer} (hrefused : a ≠ .accept)
    (hanswer : arrivalAnswer s.imq (frameSource f) (framePayload f).length = a) :
    exec (.cellReception f) s =
      .next (answerRequest f a (raise .imqRefused (bump .imqRefused 1 s.quiet))) := by
  rw [exec_cellReception_of_kept_message hlive hkeeps htype hcode,
    arrival_of_refused (s := s.quiet) (hanswer.trans_ne hrefused), hanswer]

/-- An accepted MESSAGE is answered ACCEPT and stored. -/
theorem exec_cellReception_of_accepted_message
    (hanswer : arrivalAnswer s.imq (frameSource f) (framePayload f).length = .accept) :
    exec (.cellReception f) s =
      .next (answerRequest f .accept
        { s.quiet with imq := storeMessage (frameSource f) (framePayload f) s.imq }) := by
  rw [exec_cellReception_of_kept_message hlive hkeeps htype hcode, arrival_of_accepted (s := s.quiet) hanswer, hanswer]
  rfl

end KeptMessage

/-- Settles O50: the checks of R149 decide the answer in their order, and the answer decides whether the message is refused
or stored. -/
theorem arrivalIsDecidedByTheQueue : Obligations.ArrivalIsDecidedByTheQueue := by
  intro f s hlive hkeeps htype hcode p sender answered refused
  have hrefuse (a : TargetAnswer) (ha : a ≠ .accept) (hanswer : arrivalAnswer s.imq sender p.length = a) :
      exec (.cellReception f) s = .next (answered a refused) :=
    exec_cellReception_of_refused_message hlive hkeeps htype hcode ha hanswer
  refine ⟨fun hbad => hrefuse _ (by decide) ?reject, fun hon hmul hmin hmax => ?goodLength⟩
  case reject =>
    obtain hoff | hlength := hbad
    · exact arrivalAnswer_disabled hoff
    · refine arrivalAnswer_badLength ?_
      rw [goodLength_iff]
      omega
  case goodLength =>
    have hgood : goodLength p.length = true := (goodLength_iff _).2 ⟨hmul, hmin, hmax⟩
    exact ⟨fun hfull => hrefuse _ (by decide) (arrivalAnswer_busy hon hgood hfull),
      fun hquota hroom => exec_cellReception_of_accepted_message hlive hkeeps htype hcode
        (arrivalAnswer_accept hon hgood hquota hroom)⟩

end Sys2Proof.Machine
end

section
/-! SUPPORT. The bridge controller: what DRAIN, PURGE and STOP make of each bridge state, and what a purge frees. -/

namespace Sys2Proof.Machine

/-! ## A purge, entry by entry (R26, R164) -/

/-- The DTT's own part of discarding entry n: it is FREE, and counted in DISCARDED. -/
def discardEntry (n : Fin 8) (s : State) : State :=
  bump .discarded 1 (freeEntry n s)

/-- The entries of a list, discarded one after the other. -/
def discardEntries (l : List (Fin 8)) (s : State) : State :=
  l.foldl (fun t n => discardEntry n t) s

theorem purgeEntry_of_complete {s : State} {n : Fin 8} (hcomplete : s.completeAt n = true) :
    purgeEntry n s = notice (discardEntry n s) :=
  if_pos hcomplete

theorem purgeEntry_of_not_complete {s : State} {n : Fin 8} (hnot : ¬ s.completeAt n = true) : purgeEntry n s = s :=
  if_neg hnot

theorem not_completeAt_of_free {s : State} {n : Fin 8} (hfree : s.dtt.entry n = none) : ¬ s.completeAt n = true := by
  simp [State.completeAt, hfree]

/-- Whether an entry is COMPLETE is a matter of that entry alone. -/
theorem completeAt_congr {s t : State} {n : Fin 8} (hsame : t.dtt.entry n = s.dtt.entry n) :
    t.completeAt n = s.completeAt n := by
  rw [State.completeAt, State.completeAt, hsame]

/-- A notice leaves the DTT as it is. -/
theorem notice_dtt (s : State) : (notice s).dtt = s.dtt := by
  rw [notice_frame]

theorem completeAt_notice (n : Fin 8) (s : State) : (notice s).completeAt n = s.completeAt n :=
  completeAt_congr (by rw [notice_dtt])

/-- Discarding entry m leaves every other entry COMPLETE or not as it was. -/
theorem completeAt_discardEntry {m n : Fin 8} (s : State) (hother : m ≠ n) :
    (discardEntry m s).completeAt n = s.completeAt n :=
  completeAt_congr ((entry_freeEntry m n s).trans (if_neg hother))

/-- A notice finishes no drain while an entry is COMPLETE. -/
theorem notice_of_complete {s : State} {n : Fin 8} (hcomplete : s.completeAt n = true) : notice s = s := by
  obtain ⟨-, hdrained, -⟩ | ⟨-, hsame⟩ := notice_cases s
  · exact absurd hcomplete (not_completeAt_of_free (((drainCondition_iff s).1 hdrained).1 n))
  · exact hsame

/-- A purge that goes on after a notice discards the COMPLETE entries left, and sends one notice after the last: with a
COMPLETE entry left the earlier notice did nothing, and with none left there is nothing to discard. -/
theorem foldl_purgeEntry_notice {l : List (Fin 8)} (hdistinct : l.Nodup) (s : State) :
    l.foldl (fun t n => purgeEntry n t) (notice s) = notice (discardEntries (l.filter s.completeAt) s) := by
  induction l generalizing s with
  | nil => rfl
  | cons m l ih =>
    obtain ⟨hfresh, hrest⟩ := List.nodup_cons.1 hdistinct
    rw [List.foldl_cons]
    by_cases hcomplete : s.completeAt m = true
    · have hsame : l.filter (discardEntry m s).completeAt = l.filter s.completeAt :=
        List.filter_congr fun n hn => completeAt_discardEntry s fun h => hfresh (h ▸ hn)
      rw [notice_of_complete hcomplete, purgeEntry_of_complete hcomplete, ih hrest, hsame,
        List.filter_cons_of_pos hcomplete]
      rfl
    · have hnot : ¬ (notice s).completeAt m = true := by rwa [completeAt_notice]
      rw [purgeEntry_of_not_complete hnot, ih hrest, List.filter_cons_of_neg hcomplete]

/-- A purge of entries none of which is COMPLETE does nothing. -/
theorem foldl_purgeEntry_of_none {l : List (Fin 8)} {s : State} (hnone : ∀ n ∈ l, ¬ s.completeAt n = true) :
    l.foldl (fun t n => purgeEntry n t) s = s := by
  induction l with
  | nil => rfl
  | cons m l ih =>
    obtain ⟨hm, hl⟩ := List.forall_mem_cons.1 hnone
    rw [List.foldl_cons, purgeEntry_of_not_complete hm, ih hl]

/-! ## What discarding the entries of a list makes of the state -/

/-- The entries of the list are FREE, and the others are as they were. -/
theorem entry_discardEntries (l : List (Fin 8)) (n : Fin 8) (s : State) :
    (discardEntries l s).dtt.entry n = if n ∈ l then none else s.dtt.entry n := by
  induction l generalizing s with
  | nil => rfl
  | cons m l ih =>
    have hone : (discardEntry m s).dtt.entry n = if m = n then none else s.dtt.entry n := entry_freeEntry m n s
    have hcons : discardEntries (m :: l) s = discardEntries l (discardEntry m s) := rfl
    rw [hcons, ih, hone]
    by_cases hm : m = n
    · simp [hm]
    · simp [hm, Ne.symm hm]

/-- Beside the entries themselves, their discard changes the capture order, which they leave, and DISCARDED, which counts
each and stops at 65535. -/
theorem discardEntries_frame (l : List (Fin 8)) (s : State) :
    discardEntries l s = { s with
      dtt := { s.dtt with
        entries := (discardEntries l s).dtt.entries
        order := s.dtt.order.filter (fun n => decide (n ∉ l)) }
      events := { s.events with
        counters := { s.events.counters with
          discarded :=
            if l.length = 0 then s.events.counters.discarded
            else min (s.events.counters.discarded + l.length) 65535 } } } := by
  induction l generalizing s with
  | nil => simp [discardEntries]
  | cons m l ih =>
    have hcons : discardEntries (m :: l) s = discardEntries l (discardEntry m s) := rfl
    have horder : (discardEntry m s).dtt.order.filter (fun n => decide (n ∉ l)) =
        s.dtt.order.filter (fun n => decide (n ∉ m :: l)) := by
      show (s.dtt.order.filter (· ≠ m)).filter _ = _
      rw [List.filter_filter]
      refine List.filter_congr fun n _ => ?_
      simp [Bool.and_comm]
    have hcount : (if l.length = 0 then min (s.events.counters.discarded + 1) 65535
          else min (min (s.events.counters.discarded + 1) 65535 + l.length) 65535) =
        if (m :: l).length = 0 then s.events.counters.discarded
          else min (s.events.counters.discarded + (m :: l).length) 65535 := by
      rw [List.length_cons, if_neg (Nat.succ_ne_zero _)]
      split <;> omega
    rw [← horder, ← hcount, hcons]
    exact ih (discardEntry m s)

/-! ## PURGE (R164) -/

/-- A purge before its notice: command status OK, and every COMPLETE entry discarded. -/
def purged (s : State) : State :=
  discardEntries (eight.filter s.completeAt) (setStatus .ok s)

theorem mem_filter_completeAt (s : State) (n : Fin 8) : n ∈ eight.filter s.completeAt ↔ s.completeAt n = true := by
  simp [mem_eight]

theorem entry_purged (s : State) (n : Fin 8) :
    (purged s).dtt.entry n = if s.completeAt n then none else s.dtt.entry n := by
  rw [purged, entry_discardEntries]
  exact if_congr (mem_filter_completeAt s n) rfl rfl

/-- What a purge changes before its notice: the DTT but for its setting, DISCARDED, and the command status. -/
theorem purged_frame (s : State) :
    purged s = { s with
      bridge := { s.bridge with commandStatus := .ok }
      dtt := { s.dtt with
        entries := (purged s).dtt.entries
        order := s.dtt.order.filter (fun n => !s.completeAt n) }
      events := { s.events with
        counters := { s.events.counters with
          discarded :=
            if eight.countP s.completeAt = 0 then s.events.counters.discarded
            else min (s.events.counters.discarded + eight.countP s.completeAt) 65535 } } } := by
  have horder : s.dtt.order.filter (fun n => !s.completeAt n) =
      s.dtt.order.filter (fun n => decide (n ∉ eight.filter s.completeAt)) :=
    List.filter_congr fun n _ => by simp [mem_eight]
  rw [horder, List.countP_eq_length_filter]
  exact discardEntries_frame _ (setStatus .ok s)

theorem purged_bridge (s : State) : (purged s).bridge = { s.bridge with commandStatus := .ok } := by
  rw [purged_frame]

theorem purged_edges (s : State) : (purged s).events.edges = s.events.edges := by
  rw [purged_frame]

/-- PURGE with nothing COMPLETE sets the command status alone. -/
theorem purgeOp_of_none {s : State} (htaken : s.bridge.state = .draining ∨ s.bridge.state = .drained)
    (hnone : ∀ n : Fin 8, ¬ s.completeAt n = true) : purgeOp s = setStatus .ok s := by
  have hfold : eight.foldl (fun t n => purgeEntry n t) (setStatus .ok s) = setStatus .ok s :=
    foldl_purgeEntry_of_none fun n _ => hnone n
  obtain hdraining | hdrained := htaken
  · rw [purgeOp, hdraining, hfold]
  · rw [purgeOp, hdrained, hfold]

/-- PURGE in DRAINING with something COMPLETE discards it all and sends one notice. -/
theorem purgeOp_of_some {s : State} {n : Fin 8} (hdraining : s.bridge.state = .draining)
    (hcomplete : s.completeAt n = true) : purgeOp s = notice (purged s) := by
  have hwaits : notice (setStatus .ok s) = setStatus .ok s := notice_of_complete (n := n) hcomplete
  rw [purgeOp, hdraining]
  show eight.foldl (fun t n => purgeEntry n t) (setStatus .ok s) = _
  rw [← hwaits, foldl_purgeEntry_notice (by decide)]
  rfl

/-- PURGE in STOPPED and RUNNING is refused. -/
theorem purgeOp_of_refused {s : State} (hrefused : s.bridge.state = .stopped ∨ s.bridge.state = .running) :
    purgeOp s = setStatus .state s := by
  obtain hstopped | hrun := hrefused
  · rw [purgeOp, hstopped]
  · rw [purgeOp, hrun]

/-- A purge finishes the drain when it discards an entry and leaves the part empty. -/
abbrev State.purgeFinishes (s : State) : Prop :=
  0 < eight.countP s.completeAt ∧ (purged s).drainCondition = true

/-- PURGE in DRAINING: the COMPLETE entries are discarded, and the drain is finished or goes on. -/
theorem purgeOp_of_draining {s : State} (hdraining : s.bridge.state = .draining) :
    purgeOp s = { purged s with
      bridge := { state := if s.purgeFinishes then .drained else .draining, commandStatus := .ok }
      events := { (purged s).events with
        edges := if s.purgeFinishes then s.events.edges ||| 0x200 else s.events.edges } } := by
  have hbridge : (purged s).bridge = { state := .draining, commandStatus := .ok } := by
    rw [purged_bridge, ← hdraining]
  have hedges : (purged s).events.edges = s.events.edges := purged_edges s
  by_cases hsome : ∃ n, s.completeAt n = true
  case pos =>
    obtain ⟨n, hcomplete⟩ := hsome
    have hcount : 0 < eight.countP s.completeAt := List.countP_pos_iff.2 ⟨n, mem_eight n, hcomplete⟩
    rw [purgeOp_of_some hdraining hcomplete]
    obtain ⟨-, hdrained, hnotice⟩ | ⟨hnot, hnotice⟩ := notice_cases (purged s)
    · rw [hnotice, if_pos ⟨hcount, hdrained⟩, if_pos ⟨hcount, hdrained⟩, ← hedges, enterDrainedState, hbridge]
      rfl
    · have hgoesOn : ¬ s.purgeFinishes := fun ⟨_, hdrained⟩ => hnot ⟨by rw [hbridge], hdrained⟩
      rw [hnotice, if_neg hgoesOn, if_neg hgoesOn, ← hbridge, ← hedges]
  case neg =>
    have hnone : ∀ n : Fin 8, ¬ s.completeAt n = true := not_exists.1 hsome
    have hempty : purged s = setStatus .ok s := by
      rw [purged, List.filter_eq_nil_iff.2 fun n _ => hnone n]
      rfl
    have hgoesOn : ¬ s.purgeFinishes := fun ⟨hcount, _⟩ =>
      hcount.ne' (List.countP_eq_zero.2 fun n _ => hnone n)
    rw [purgeOp_of_none (.inl hdraining) hnone, if_neg hgoesOn, if_neg hgoesOn, ← hbridge, ← hedges, hempty]

/-- With CRST released, PURGE has its effect and is answered DONE. -/
theorem exec_purge {s : State} (hlive : s.live) : exec .purge s = .next ((purgeOp s).reply (.done .nothing)) :=
  registerStep_live purgeOp hlive

/-- Settles O25: a purge in DRAINING sends in effect one notice, after its last discard; in DRAINED it finds no entry to
discard, and elsewhere it is refused. -/
theorem purgeFreesExactlyTheCompleteEntries : Obligations.PurgeFreesExactlyTheCompleteEntries := by
  intro s hlive
  rw [exec_purge hlive]
  refine ⟨fun hdraining => ?draining, fun hdrained hfree => ?drained, fun hrefused => ?refused⟩
  case draining =>
    rw [purgeOp_of_draining hdraining]
    refine ⟨_, rfl, entry_purged s, ?order, ?counters, rfl, rfl, ?frame⟩
    case order =>
      show (purged s).dtt.order = _
      rw [purged_frame]
    case counters =>
      show (purged s).events.counters = _
      rw [purged_frame]
    case frame =>
      generalize (if s.purgeFinishes then BridgeState.drained else .draining) = state
      generalize (if s.purgeFinishes then s.events.edges ||| 0x200 else s.events.edges) = edges
      rw [purged_frame]
      rfl
  case drained =>
    rw [purgeOp_of_none (.inr hdrained) fun n => not_completeAt_of_free (hfree n)]
    rfl
  case refused =>
    rw [purgeOp_of_refused hrefused]
    rfl

/-! ## DRAIN (R162) -/

/-- With CRST released, DRAIN has its effect and is answered DONE. -/
theorem exec_drain {s : State} (hlive : s.live) : exec .drain s = .next ((drainOp s).reply (.done .nothing)) :=
  registerStep_live drainOp hlive

section Drain

variable {s : State}

/-- DRAIN in RUNNING with something inside enters DRAINING. -/
theorem drainOp_of_running_busy (hrun : s.bridge.state = .running) (hbusy : s.drainCondition = false) :
    drainOp s = setBridge .draining s := by
  rw [drainOp, hrun]
  exact if_neg fun ⟨_, hempty⟩ => Bool.false_ne_true (hbusy.symm.trans hempty)

/-- DRAIN in RUNNING with nothing inside passes through DRAINING into DRAINED. -/
theorem drainOp_of_running_empty (hrun : s.bridge.state = .running) (hempty : s.drainCondition = true) :
    drainOp s = enterDrainedState (setBridge .draining s) := by
  rw [drainOp, hrun]
  exact if_pos ⟨rfl, hempty⟩

/-- DRAIN in DRAINING and DRAINED is taken, and the bridge state stays. -/
theorem drainOp_of_closed (hclosed : s.bridge.state = .draining ∨ s.bridge.state = .drained) :
    drainOp s = setStatus .ok s := by
  obtain hdraining | hdrained := hclosed
  · rw [drainOp, hdraining]
  · rw [drainOp, hdrained]

/-- DRAIN in STOPPED is refused. -/
theorem drainOp_of_stopped (hstopped : s.bridge.state = .stopped) : drainOp s = setStatus .state s := by
  rw [drainOp, hstopped]

end Drain

/-- Settles O24: the bridge state decides, and in RUNNING the drain condition with it. -/
theorem drainClosesTheDoor : Obligations.DrainClosesTheDoor := by
  intro s hlive
  rw [exec_drain hlive]
  refine ⟨fun hrun hbusy => ?_, fun hrun hempty => ?_, fun hclosed => ?_, fun hstopped => ?_⟩
  · rw [drainOp_of_running_busy hrun hbusy]
    rfl
  · rw [drainOp_of_running_empty hrun hempty]
    rfl
  · rw [drainOp_of_closed hclosed]
    rfl
  · rw [drainOp_of_stopped hstopped]
    rfl

/-! ## STOP (R165) -/

/-- With CRST released, STOP has its effect and is answered DONE. -/
theorem exec_stop {s : State} (hlive : s.live) : exec .stop s = .next ((stopOp s).reply (.done .nothing)) :=
  registerStep_live stopOp hlive

section Stop

variable {s : State}

/-- STOP in DRAINED and STOPPED is taken. -/
theorem stopOp_of_taken (htaken : s.bridge.state = .drained ∨ s.bridge.state = .stopped) :
    stopOp s = setBridge .stopped s := by
  obtain hdrained | hstopped := htaken
  · rw [stopOp, hdrained]
  · rw [stopOp, hstopped]

/-- STOP in RUNNING and DRAINING is refused. -/
theorem stopOp_of_refused (hrefused : s.bridge.state = .running ∨ s.bridge.state = .draining) :
    stopOp s = setStatus .state s := by
  obtain hrun | hdraining := hrefused
  · rw [stopOp, hrun]
  · rw [stopOp, hdraining]

/-- A STOP with command status OK was given in DRAINED or STOPPED. -/
theorem taken_of_stopOp_ok (hok : (stopOp s).bridge.commandStatus = .ok) :
    s.bridge.state = .drained ∨ s.bridge.state = .stopped := by
  cases hstate : s.bridge.state with
  | drained => exact .inl rfl
  | stopped => exact .inr rfl
  | running =>
    rw [stopOp_of_refused (.inl hstate)] at hok
    contradiction
  | draining =>
    rw [stopOp_of_refused (.inr hstate)] at hok
    contradiction

end Stop

/-- Settles O26: the bridge state decides whether STOP is taken and what a new access is told, and the two states that take it
are those in which the part is empty. -/
theorem stopTakenOnlyWhenNothingIsInside : Obligations.StopTakenOnlyWhenNothingIsInside := by
  intro s hlive
  rw [exec_stop hlive]
  refine ⟨fun htaken => ?taken, fun hrefused => ?refused, fun t a hdrained hstop hwf hun => ⟨?before, ?after⟩,
    fun t hoff hstop hok => ?empty⟩
  case taken =>
    rw [stopOp_of_taken htaken]
    rfl
  case refused =>
    rw [stopOp_of_refused hrefused]
    rfl
  case before =>
    rw [exec_windowSelectAccess_unmatched hlive hwf hun, newAccess_of_closed (.inr hdrained)]
    rfl
  case after =>
    obtain rfl := Host.Outcome.next.inj hstop
    rw [stopOp_of_taken (.inl hdrained),
      exec_windowSelectAccess_unmatched (s := (setBridge .stopped s).reply _) hlive hwf hun, newAccess_of_stopped rfl]
    rfl
  case empty =>
    obtain rfl := Host.Outcome.next.inj hstop
    exact (drainCondition_iff s).1 (hoff (taken_of_stopOp_ok hok).symm)

end Sys2Proof.Machine
end

section
/-! SUPPORT. The event unit's registers: where each event stands in the pending and enable words, when an event is pending,
and when INT is asserted. -/

namespace Sys2Proof.Machine

/-! ## The positions of the events (R188) -/

/-- The eleven events stand in the low eleven bits. -/
theorem Event.bit_lt (e : Event) : e.bit < 11 := by
  cases e <;> decide

/-- MSG alone stands at bit 0. -/
theorem Event.zero_eq_bit_iff (e : Event) : 0 = e.bit ↔ e = .msg := by
  cases e <;> decide

/-- Each of the low eleven bits is the position of an event. -/
theorem Event.exists_bit_eq : ∀ i < 11, ∃ e : Event, e.bit = i
  | 0, _ => ⟨.msg, rfl⟩
  | 1, _ => ⟨.imqRefused, rfl⟩
  | 2, _ => ⟨.discard, rfl⟩
  | 3, _ => ⟨.lostResult, rfl⟩
  | 4, _ => ⟨.drop, rfl⟩
  | 5, _ => ⟨.stray, rfl⟩
  | 6, _ => ⟨.full, rfl⟩
  | 7, _ => ⟨.rackDown, rfl⟩
  | 8, _ => ⟨.rackUp, rfl⟩
  | 9, _ => ⟨.drained, rfl⟩
  | 10, _ => ⟨.error, rfl⟩
  | _ + 11, hlt => absurd hlt (by omega)

/-- The mask of MSG holds the bit of MSG and no other event's. -/
theorem getLsbD_msg_mask (e : Event) : Event.msg.mask.getLsbD e.bit = decide (e = .msg) := by
  rw [Event.mask, BitVec.getLsbD_ofNat, Nat.testBit_two_pow]
  simp [e.bit_lt, show Event.msg.bit = 0 from rfl, e.zero_eq_bit_iff]

/-- Two sets of events have one in common exactly when their meet is not empty. -/
theorem and_ne_zero_iff_exists_event (v w : BitVec 11) :
    v &&& w ≠ 0 ↔ ∃ e : Event, v.getLsbD e.bit = true ∧ w.getLsbD e.bit = true := by
  constructor
  · intro hne
    obtain ⟨i, hi⟩ : ∃ i, (v &&& w).getLsbD i = true := by
      simpa [BitVec.zero_iff_eq_false] using hne
    obtain ⟨e, rfl⟩ := Event.exists_bit_eq i (BitVec.lt_of_getLsbD hi)
    exact ⟨e, by simpa using hi⟩
  · rintro ⟨e, hv, hw⟩ hzero
    have hboth : (v &&& w).getLsbD e.bit = true := by rw [BitVec.getLsbD_and, hv, hw]; rfl
    rw [BitVec.zero_iff_eq_false.1 hzero] at hboth
    contradiction

/-- A register word that shows a set of events at bits 10 to 0 shows each at its position. -/
theorem getLsbD_setWidth_bit (v : BitVec 11) (e : Event) : (v.setWidth 32).getLsbD e.bit = v.getLsbD e.bit := by
  have hlt : e.bit < 32 := e.bit_lt.trans (by decide)
  rw [BitVec.getLsbD_setWidth, decide_eq_true hlt, Bool.true_and]

/-- The eleven events written with a register word are those at its bits 10 to 0. -/
theorem getLsbD_extractLsb'_bit (w : Word) (e : Event) : (w.extractLsb' 0 11).getLsbD e.bit = w.getLsbD e.bit := by
  rw [BitVec.getLsbD_extractLsb', decide_eq_true e.bit_lt, Bool.true_and, Nat.zero_add]

/-! ## Pending events and INT (R155, R172, R174) -/

/-- MSG is pending as the IMQ has it, and an edge event as it is stored. -/
theorem isPending_eq (s : State) (e : Event) :
    s.isPending e = if e = .msg then decide (s.imq.messages ≠ []) else s.events.edges.getLsbD e.bit := by
  have hqueue : s.msgPending = decide (s.imq.messages ≠ []) := by
    rw [State.msgPending]
    cases s.imq.messages <;> rfl
  have hlevel : (if s.msgPending then Event.msg.mask else 0).getLsbD e.bit = (s.msgPending && decide (e = .msg)) := by
    cases s.msgPending
    · exact BitVec.getLsbD_zero
    · exact getLsbD_msg_mask e
  rw [State.isPending, State.pendingEvents, BitVec.getLsbD_or, BitVec.getLsbD_and, BitVec.getLsbD_not, hlevel,
    getLsbD_msg_mask, hqueue]
  by_cases hmsg : e = .msg
  · simp [hmsg]
  · simp [hmsg, e.bit_lt]

/-- Clearing a set of edge events clears those in the set, and leaves MSG to the IMQ. -/
theorem isPending_clearEvents (v : BitVec 11) (s : State) (e : Event) :
    (clearEvents v s).isPending e =
      if e = .msg then decide (s.imq.messages ≠ []) else (s.isPending e && !v.getLsbD e.bit) := by
  rw [isPending_eq, isPending_eq]
  by_cases hmsg : e = .msg
  · rw [if_pos hmsg, if_pos hmsg]
    rfl
  · simp [hmsg, clearEvents, e.bit_lt]

/-- INT is asserted exactly while some event is pending and enabled. -/
theorem interrupt_iff (s : State) :
    s.interrupt = true ↔ ∃ e : Event, s.isPending e = true ∧ s.events.enable.getLsbD e.bit = true := by
  rw [State.interrupt, bne_iff_ne]
  exact and_ne_zero_iff_exists_event s.pendingEvents s.events.enable

/-! ## The registers (R172, R174, R188) -/

/-- A read of the pending register shows the eleven events. -/
theorem readReg_eventPending (s : State) : readReg s .eventPending = s.pendingEvents.setWidth 32 := by
  rw [readReg, fields_single, BitVec.ofNat_toNat]

/-- A read of the enable register shows the eleven enables. -/
theorem readReg_eventEnable (s : State) : readReg s .eventEnable = s.events.enable.setWidth 32 := by
  rw [readReg, fields_single, BitVec.ofNat_toNat]

/-- With CRST released, a write of the pending register has its effect and is answered DONE. -/
theorem exec_eventPendingClear {s : State} (w : Word) (hlive : s.live) :
    exec (.eventPendingClear w) s = .next ((clearEvents (w.extractLsb' 0 11) s).reply (.done .nothing)) :=
  registerStep_live (eventPendingClearOp w) hlive

/-- With CRST released, a write of the enable register has its effect and is answered DONE. -/
theorem exec_eventEnableWrite {s : State} (w : Word) (hlive : s.live) :
    exec (.eventEnableWrite w) s = .next ((eventEnableWriteOp w s).reply (.done .nothing)) :=
  registerStep_live (eventEnableWriteOp w) hlive

/-- Settles O38: INT is the meet of the pending and the enabled events, and each bit of the meet is an event's. -/
theorem enableWriteSetsEveryEnableAndInt : Obligations.EnableWriteSetsEveryEnableAndInt :=
  ⟨fun _ w hlive => exec_eventEnableWrite w hlive, readReg_eventEnable, interrupt_iff⟩

/-- Settles O37: a write clears stored edge bits alone, and MSG is shown from the IMQ. -/
theorem pendingWriteClearsTheWrittenEdges : Obligations.PendingWriteClearsTheWrittenEdges := by
  refine ⟨fun s w hlive => ⟨_, exec_eventPendingClear w hlive, fun e => ?pending, rfl⟩, fun s e => ?read⟩
  case pending =>
    calc ((clearEvents (w.extractLsb' 0 11) s).reply (.done .nothing)).isPending e
      _ = (clearEvents (w.extractLsb' 0 11) s).isPending e := rfl
      _ = _ := by rw [isPending_clearEvents, getLsbD_extractLsb'_bit]
  case read =>
    rw [readReg_eventPending, getLsbD_setWidth_bit]
    rfl

end Sys2Proof.Machine
end

section
/-! SUPPORT. What a command can make of a state, said once for all 39: every step of the part is a reply, a register write, a
window-select access, one of the block's own operations, or a change of a reset line. -/

namespace Sys2Proof.Machine

/-! ## The ways a command runs -/

/-- The ways a command can run, each with the state it leads to. The invariants below are proved by cases on this relation;
`exec_ran` ties it to `exec`. -/
inductive Ran : Instr → State → State → Prop where
  /-- The local port answers, and nothing else happens. -/
  | replied (c : Instr) (s : State) (a : Answer) : Ran c s (s.reply a)
  /-- Nothing happens. -/
  | quieted (c : Instr) (s : State) : Ran c s s.quiet
  /-- The register that the command writes takes a word (R84). -/
  | wrote {c : Instr} {s : State} {r : Reg} (w : Word) (hlive : s.live) (htarget : c.target = some r) :
      Ran c s ((writeReg r w s).reply (.done .nothing))
  /-- A window-select access is decided (R75). -/
  | accessed {c : Instr} {s : State} (a : Access) (hlive : s.live) (hfits : c.isWellFormed = true → a.dataFits = true) :
      Ran c s (windowSelect a s)
  /-- A notice reaches the bridge controller (R163). -/
  | noticed (c : Instr) {s : State} (hlive : s.live) : Ran c s (notice s.quiet)
  /-- The arbiter takes its turn (R89). -/
  | issued (c : Instr) {s : State} (hlive : s.live) : Ran c s (issueOp s.quiet)
  /-- A cell is received (R118). -/
  | received (c : Instr) (f : List Byte) {s : State} (hlive : s.live) : Ran c s (receive f s.quiet)
  /-- A response timer expires (R97). -/
  | responseExpired (c : Instr) (o : Origin) {s : State} (hlive : s.live) : Ran c s (responseExpiryOp o s.quiet)
  /-- A deferral timer expires (R134). -/
  | deferralExpired (c : Instr) (o : Origin) {s : State} (hlive : s.live) : Ran c s (deferralExpiryOp o s.quiet)
  /-- A discard timer expires (R21). -/
  | discardExpired (c : Instr) (n : Fin 8) {s : State} (hlive : s.live) : Ran c s (discardExpiryOp n s.quiet)
  /-- A tick ends (R123). -/
  | ticked (c : Instr) {s : State} (hlive : s.live) : Ran c s (tickOp s.quiet)
  /-- Card reset (R108). -/
  | cardReset (s : State) : Ran .cardReset s (cardResetState s)
  /-- CRST is released (R108). -/
  | crstReleased {s : State} (pins : Slot) (hcrst : s.lines.crst = true) :
      Ran (.crstRelease pins) s (releaseCrst pins s.quiet)
  /-- The level of RRST is followed, and its change is not acted on (R108). -/
  | rrstFollowed (c : Instr) {s : State} (level : Bool) (hlevel : s.lines.crst = true ∨ s.lines.rrst = level) :
      Ran c s (setRrst level s.quiet)
  /-- RRST is asserted (R106). -/
  | rrstAsserted (c : Instr) {s : State} (hlive : s.live) (hline : s.lines.rrst = false) :
      Ran c s (enterDown (setRrst true s.quiet))
  /-- RRST is released (R107). -/
  | rrstReleased {s : State} (pins : Slot) (hlive : s.live) (hline : s.lines.rrst = true) :
      Ran (.rrstRelease pins) s (leaveDown pins (setRrst false s.quiet))

/-! ## Each kind of row -/

/-- A row that is a register write runs as the write of a word to its register. -/
theorem ran_of_registerStep {c : Instr} {effect : State → State} {s t : State} (r : Reg) (w : Word)
    (hstep : registerStep effect s = .next t) (htarget : c.target = some r) (heffect : effect s = writeReg r w s) :
    Ran c s t := by
  obtain ⟨-, rfl⟩ | ⟨hlive, rfl⟩ := registerStep_cases hstep
  · exact .replied c s .retry
  · exact heffect ▸ .wrote w hlive htarget

/-- A row of the block's own runs as its operation. -/
theorem ran_of_blockStep {c : Instr} {effect : State → State} {s t : State} (hstep : blockStep effect s = .next t)
    (heffect : s.live → Ran c s (effect s.quiet)) : Ran c s t := by
  obtain ⟨-, rfl⟩ | ⟨hlive, rfl⟩ := blockStep_cases hstep
  · exact .quieted c s
  · exact heffect hlive

/-- A row of the local port runs as its access. -/
theorem ran_of_localStep {c : Instr} {effect : State → State} {s t : State} (hstep : localStep effect s = .next t)
    (heffect : s.live → Ran c s (effect s)) : Ran c s t := by
  obtain ⟨-, rfl⟩ | ⟨hlive, rfl⟩ := localStep_cases hstep
  · exact .replied c s .retry
  · exact heffect hlive

/-- A register-select access is a reply, or the write of the register at its offset. -/
theorem ran_registerSelect {c : Instr} {a : RegAccess} {s : State} (htarget : c.target = a.target) (hlive : s.live) :
    Ran c s (registerSelect a s) := by
  by_cases hwf : a.wellFormed = true
  case neg => exact registerSelect_of_malformed hwf ▸ .replied c s .fault
  case pos =>
    cases hkind : a.kind with
    | read => exact registerSelect_of_read hwf hkind ▸ .replied c s _
    | exchange => exact absurd hkind ((regAccess_wellFormed_iff a).1 hwf).1
    | write =>
      rw [RegAccess.target, if_pos ⟨hwf, hkind⟩] at htarget
      rw [registerSelect_of_write hwf hkind, writeOffset]
      cases hreg : Reg.ofOffset a.offset with
      | none => exact .replied c s _
      | some r => exact .wrote a.word hlive (htarget.trans hreg)

/-- The word that names a window command and its entry: the command in bits 3 to 0, the index in bits 15 to 8 (R189). -/
def windowCommandWord (command : BitVec 4) (n : BitVec 8) : Word :=
  BitVec.ofNat 32 (n.toNat * 2 ^ 8 + command.toNat)

theorem windowCommandWord_command (command : BitVec 4) (n : BitVec 8) :
    (windowCommandWord command n).extractLsb' 0 4 = command := by
  apply BitVec.eq_of_toNat_eq
  have hcommand := command.isLt
  simp only [windowCommandWord, BitVec.extractLsb'_toNat, BitVec.toNat_ofNat, Nat.shiftRight_zero]
  omega

theorem windowCommandWord_index (command : BitVec 4) (n : BitVec 8) :
    (windowCommandWord command n).extractLsb' 8 8 = n := by
  apply BitVec.eq_of_toNat_eq
  have hcommand := command.isLt
  have hindex := n.isLt
  simp only [windowCommandWord, BitVec.extractLsb'_toNat, BitVec.toNat_ofNat, Nat.shiftRight_eq_div_pow]
  omega

/-- The three window commands as writes of the window command register. -/
theorem windowCommandWrite_commit (n : BitVec 8) (s : State) :
    windowCommandWrite (windowCommandWord 1 n) s = windowCommand n commitEntry s := by
  rw [windowCommandWrite, windowCommandWord_command, windowCommandWord_index]
  rfl

theorem windowCommandWrite_load (n : BitVec 8) (s : State) :
    windowCommandWrite (windowCommandWord 2 n) s = windowCommand n loadEntry s := by
  rw [windowCommandWrite, windowCommandWord_command, windowCommandWord_index]
  rfl

theorem windowCommandWrite_disable (n : BitVec 8) (s : State) :
    windowCommandWrite (windowCommandWord 3 n) s = windowCommand n disableEntry s := by
  rw [windowCommandWrite, windowCommandWord_command, windowCommandWord_index]
  rfl

/-! ## The reset lines -/

theorem ran_crstRelease (pins : Slot) (s : State) :
    Ran (.crstRelease pins) s (if s.lines.crst then releaseCrst pins s.quiet else s.quiet) := by
  split
  · exact .crstReleased pins ‹_›
  · exact .quieted _ s

theorem ran_rrstAssert (s : State) :
    Ran .rrstAssert s
      (if s.lines.crst || s.lines.rrst then setRrst true s.quiet else enterDown (setRrst true s.quiet)) := by
  split
  next hline => exact .rrstFollowed _ true (by simpa using hline)
  next hline =>
    obtain ⟨hcrst, hrrst⟩ : s.lines.crst = false ∧ s.lines.rrst = false := by simpa using hline
    exact .rrstAsserted _ hcrst hrrst

theorem ran_rrstRelease (pins : Slot) (s : State) :
    Ran (.rrstRelease pins) s
      (if s.lines.crst || !s.lines.rrst then setRrst false s.quiet else leaveDown pins (setRrst false s.quiet)) := by
  split
  next hline => exact .rrstFollowed _ false (by simpa using hline)
  next hline =>
    obtain ⟨hcrst, hrrst⟩ : s.lines.crst = false ∧ s.lines.rrst = true := by simpa using hline
    exact .rrstReleased pins hcrst hrrst

/-! ## Every row -/

/-- Every command runs in one of the ways of `Ran`. -/
theorem exec_ran {c : Instr} {s t : State} (h : exec c s = .next t) : Ran c s t := by
  cases c with
  | windowSelectAccess a => exact ran_of_localStep h fun hlive => .accessed a hlive id
  | bothSelectsAccess a => exact ran_of_localStep h fun _ => .replied _ s .fault
  | accessDuringCardReset p =>
    refine ran_of_localStep h fun hlive => ?_
    cases p with
    | register a => exact ran_registerSelect rfl hlive
    | window a => exact .accessed a hlive id
    | both a => exact .replied _ s .fault
  | malformedRegisterAccess a => exact ran_of_localStep h fun hlive => ran_registerSelect rfl hlive
  | registerWrite a => exact ran_of_localStep h fun hlive => ran_registerSelect rfl hlive
  | start => exact ran_of_registerStep .bridgeCommand 1 h rfl rfl
  | drain => exact ran_of_registerStep .bridgeCommand 2 h rfl rfl
  | purge => exact ran_of_registerStep .bridgeCommand 3 h rfl rfl
  | stop => exact ran_of_registerStep .bridgeCommand 4 h rfl rfl
  | go => exact ran_of_registerStep .bridgeCommand 5 h rfl rfl
  | pause => exact ran_of_registerStep .bridgeCommand 6 h rfl rfl
  | commit n => exact ran_of_registerStep .windowCommand _ h rfl (windowCommandWrite_commit n s).symm
  | load n => exact ran_of_registerStep .windowCommand _ h rfl (windowCommandWrite_load n s).symm
  | disable n => exact ran_of_registerStep .windowCommand _ h rfl (windowCommandWrite_disable n s).symm
  | stagingWrite f w => exact ran_of_registerStep (.staging f) w h rfl rfl
  | send => exact ran_of_registerStep .send 0 h rfl rfl
  | composeWrite f w => exact ran_of_registerStep (.compose f) w h rfl rfl
  | msgRetryWrite w => exact ran_of_registerStep .msgRetry w h rfl rfl
  | pop => exact ran_of_registerStep .pop 0 h rfl rfl
  | imqControlWrite w => exact ran_of_registerStep .imqControl w h rfl rfl
  | errclr => exact ran_of_registerStep .errclr 0 h rfl rfl
  | eventPendingClear w => exact ran_of_registerStep .eventPending w h rfl rfl
  | eventEnableWrite w => exact ran_of_registerStep .eventEnable w h rfl rfl
  | counterClear c => exact ran_of_registerStep (.counter c) 0 h rfl rfl
  | issueCapWrite w => exact ran_of_registerStep .issueCap w h rfl rfl
  | respTimeoutWrite w => exact ran_of_registerStep .respTimeout w h rfl rfl
  | discardTimeWrite w => exact ran_of_registerStep .discardTime w h rfl rfl
  | timebaseWrite w => exact ran_of_registerStep .timebase w h rfl rfl
  | enterDrained => exact ran_of_blockStep h fun hlive => .noticed _ hlive
  | issue => exact ran_of_blockStep h fun hlive => .issued _ hlive
  | cellReception f => exact ran_of_blockStep h fun hlive => .received _ f hlive
  | responseTimerExpiry o => exact ran_of_blockStep h fun hlive => .responseExpired _ o hlive
  | deferralExpiry o => exact ran_of_blockStep h fun hlive => .deferralExpired _ o hlive
  | discardExpiry n => exact ran_of_blockStep h fun hlive => .discardExpired _ n hlive
  | timeBaseTick => exact ran_of_blockStep h fun hlive => .ticked _ hlive
  | cardReset =>
    obtain rfl := Host.Outcome.next.inj h
    exact .cardReset s
  | crstRelease pins =>
    obtain rfl := Host.Outcome.next.inj h
    exact ran_crstRelease pins s
  | rrstAssert =>
    obtain rfl := Host.Outcome.next.inj h
    exact ran_rrstAssert s
  | rrstRelease pins =>
    obtain rfl := Host.Outcome.next.inj h
    exact ran_rrstRelease pins s

end Sys2Proof.Machine
end

section
/-! SUPPORT. What the part's own work leaves alone: the setup, which only register writes, arrivals, ticks and the reset lines
change, and what it may do to the event unit and the bridge state. -/

namespace Sys2Proof.Machine

/-! ## The setup -/

/-- The fields of the state that the work on accesses, items and cells does not change: the reset lines, the own slot, the
compose buffer, the windows, the IMQ, the time base, the settings, and the commands still waiting. -/
structure Setup where
  lines : Lines
  ownSlot : Slot
  compose : Compose
  windows : WindowTable
  imq : Imq
  time : TimeBase
  issueCap : BitVec 3
  respTimeout : BitVec 8
  discardTime : BitVec 5
  pending : List Instr

/-- The setup of a state. -/
def State.setup (s : State) : Setup :=
  { lines := s.lines, ownSlot := s.rack.ownSlot, compose := s.compose, windows := s.windows, imq := s.imq
    time := s.time, issueCap := s.arbiter.issueCap, respTimeout := s.arbiter.respTimeout
    discardTime := s.dtt.discardTime, pending := s.pending }

section SameSetup

variable {s t : State} (h : t.setup = s.setup)
include h

theorem lines_of_setup : t.lines = s.lines := congrArg Setup.lines h

theorem ownSlot_of_setup : t.rack.ownSlot = s.rack.ownSlot := congrArg Setup.ownSlot h

theorem windows_of_setup : t.windows = s.windows := congrArg Setup.windows h

theorem imq_of_setup : t.imq = s.imq := congrArg Setup.imq h

theorem pending_of_setup : t.pending = s.pending := congrArg Setup.pending h

/-- The settings are part of the setup. -/
theorem settingsLegal_of_setup (hs : s.settingsLegal) : t.settingsLegal := by
  rw [State.setup, State.setup, Setup.mk.injEq] at h
  obtain ⟨-, -, hcompose, -, himq, htime, hcap, hresp, hdiscard, -⟩ := h
  rwa [State.settingsLegal, htime, hresp, hcompose, hdiscard, hcap, himq]

/-- The windows are part of the setup. -/
theorem windowsLegal_of_setup (hs : s.windowsLegal) : t.windowsLegal := by
  rwa [State.windowsLegal, windows_of_setup h]

end SameSetup

/-! ## Reports to the event unit (R171, R178, R181) -/

/-- What raising events, counting and capturing errors can do to the event unit: an edge that is pending stays so, no count
goes above its end, and a held error stays held. -/
structure Reports (s t : State) : Prop where
  edges : ∀ i, s.events.edges.getLsbD i = true → t.events.edges.getLsbD i = true
  counters : ∀ c, s.events.counters.get c ≤ Config.counterMax → t.events.counters.get c ≤ Config.counterMax
  overflow : s.overflow ≤ Config.overflowMax → t.overflow ≤ Config.overflowMax
  held : ∀ h : Held, s.events.capture = some h → h.overflow ≤ Config.overflowMax →
    ∃ h' : Held, t.events.capture = some h' ∧ h'.error = h.error ∧ h.overflow ≤ h'.overflow ∧
      h'.overflow ≤ Config.overflowMax

theorem Reports.of_eq {s t : State} (hedges : t.events.edges = s.events.edges)
    (hcounters : t.events.counters = s.events.counters) (hcapture : t.events.capture = s.events.capture) :
    Reports s t where
  edges i hi := by rwa [hedges]
  counters c hc := by rwa [hcounters]
  overflow ho := by rwa [State.overflow, hcapture]
  held k hk hle := ⟨k, by rwa [hcapture], rfl, le_rfl, hle⟩

theorem Reports.of_events {s t : State} (h : t.events = s.events) : Reports s t :=
  .of_eq (by rw [h]) (by rw [h]) (by rw [h])

theorem Reports.trans {s t u : State} (h : Reports s t) (k : Reports t u) : Reports s u where
  edges i hi := k.edges i (h.edges i hi)
  counters c hc := k.counters c (h.counters c hc)
  overflow ho := k.overflow (h.overflow ho)
  held g hg hle := by
    obtain ⟨g', hg', herror, hgrows, hle'⟩ := h.held g hg hle
    obtain ⟨g'', hg'', herror', hgrows', hle''⟩ := k.held g' hg' hle'
    exact ⟨g'', hg'', herror'.trans herror, hgrows.trans hgrows', hle''⟩

theorem reports_raise (e : Event) (s : State) : Reports s (raise e s) where
  edges i hi := by simp [raise, hi]
  counters _ hc := hc
  overflow ho := ho
  held h hc hle := ⟨h, hc, rfl, le_rfl, hle⟩

theorem reports_bump (i : CounterId) (n : Nat) (s : State) : Reports s (bump i n s) where
  edges _ hi := hi
  counters c hc := by
    show (s.events.counters.put i _).get c ≤ _
    rw [get_put]
    split
    · exact saturate_le _ _
    · exact hc
  overflow ho := ho
  held h hc hle := ⟨h, hc, rfl, le_rfl, hle⟩

theorem reports_captureError (i : ErrorInfo) (s : State) : Reports s (captureError i s) := by
  obtain ⟨hempty, heq⟩ | ⟨h, hheld, heq⟩ := captureError_cases i s
  · rw [heq]
    exact {
      edges := fun _ hi => by simp [raise, hi]
      counters := fun _ hc => hc
      overflow := fun _ => Nat.zero_le _
      held := fun h hh _ => absurd (hempty.symm.trans hh) (Option.some_ne_none h).symm }
  · rw [heq]
    exact {
      edges := fun _ hi => hi
      counters := fun _ hc => hc
      overflow := fun _ => Nat.min_le_right _ _
      held := fun k hk hle => by
        obtain rfl := Option.some.inj (hheld.symm.trans hk)
        exact ⟨_, rfl, rfl, Nat.le_min.2 ⟨Nat.le_succ _, hle⟩, Nat.min_le_right _ _⟩ }

theorem reports_enterDrainedState (s : State) : Reports s (enterDrainedState s) := by
  have hbridge : Reports s { s with bridge := { s.bridge with state := .drained } } := .of_events rfl
  exact hbridge.trans (reports_raise .drained _)

theorem reports_notice (s : State) : Reports s (notice s) := by
  obtain ⟨-, -, h⟩ | ⟨-, h⟩ := notice_cases s
  · exact h ▸ reports_enterDrainedState s
  · exact .of_events (by rw [h])

/-- Reports keep every count within its end. -/
theorem Reports.countsBounded {s t : State} (h : Reports s t) (hs : s.countsBounded) : t.countsBounded :=
  ⟨fun c hc => h.counters c (hs.1 c hc), h.overflow hs.2⟩

/-! ## The part's own work -/

/-- What the work on accesses, items and cells can do outside of the DTT, the PWQ and the arbiter: it keeps the setup, it
reports to the event unit, and the bridge state stays or a drain is finished with DRAINED raised. -/
structure Works (s t : State) : Prop where
  setup : t.setup = s.setup
  reports : Reports s t
  bridge : t.bridge.state = s.bridge.state ∨
    (s.bridge.state = .draining ∧ t.bridge.state = .drained ∧ t.events.edges.getLsbD Event.drained.bit = true)

/-- An operation that changes neither setup nor event unit nor bridge. -/
theorem Works.of_eq {s t : State} (hsetup : t.setup = s.setup) (hevents : t.events = s.events)
    (hbridge : t.bridge = s.bridge) : Works s t :=
  ⟨hsetup, .of_events hevents, .inl (by rw [hbridge])⟩

theorem Works.refl (s : State) : Works s s := .of_eq rfl rfl rfl

theorem Works.trans {s t u : State} (h : Works s t) (k : Works t u) : Works s u where
  setup := k.setup.trans h.setup
  reports := h.reports.trans k.reports
  bridge := by
    obtain hsame | ⟨hdraining, hdrained, hedge⟩ := h.bridge
    · rw [← hsame]
      exact k.bridge
    · obtain hsame' | ⟨hdraining', -, -⟩ := k.bridge
      · exact .inr ⟨hdraining, hsame'.trans hdrained, k.reports.edges _ hedge⟩
      · exact absurd (hdrained.symm.trans hdraining') (by decide)

theorem works_reply (a : Answer) (s : State) : Works s (s.reply a) := .of_eq rfl rfl rfl

theorem works_quiet (s : State) : Works s s.quiet := .of_eq rfl rfl rfl

theorem works_raise (e : Event) (s : State) : Works s (raise e s) := ⟨rfl, reports_raise e s, .inl rfl⟩

theorem works_bump (i : CounterId) (n : Nat) (s : State) : Works s (bump i n s) := ⟨rfl, reports_bump i n s, .inl rfl⟩

theorem works_captureError (i : ErrorInfo) (s : State) : Works s (captureError i s) where
  setup := by rw [captureError_frame]; rfl
  reports := reports_captureError i s
  bridge := .inl (by rw [captureError_frame])

theorem works_notice (s : State) : Works s (notice s) where
  setup := by rw [notice_frame]; rfl
  reports := reports_notice s
  bridge := by
    obtain ⟨hdraining, -, h⟩ | ⟨-, h⟩ := notice_cases s
    · refine .inr ⟨hdraining, by rw [h]; rfl, ?_⟩
      rw [h]
      show (s.events.edges ||| Event.drained.mask).getLsbD _ = true
      rw [BitVec.getLsbD_or, show Event.drained.mask.getLsbD Event.drained.bit = true by decide, Bool.or_true]
    · exact .inl (by rw [h])

/-! ## Each operation is such work -/

theorem works_advanceQueue (s : State) : Works s (advanceQueue s) := by
  obtain ⟨-, h⟩ | ⟨_, -, h⟩ | ⟨_, _, _, -, h⟩ := advanceQueue_cases s <;> rw [h]
  · exact .refl s
  · exact .of_eq rfl rfl rfl
  · exact .of_eq rfl rfl rfl

theorem works_retire (s : State) : Works s (retire s) := by
  have hqueue : Works s (advanceQueue (releaseWaiters s)) :=
    (Works.of_eq rfl rfl rfl : Works s (releaseWaiters s)).trans (works_advanceQueue _)
  simp only [retire]
  split
  · exact hqueue.trans (works_notice _)
  · exact hqueue

theorem works_dropHead (h : Item) (k : ErrorKind) (s : State) : Works s (dropHead h k s) :=
  (((works_bump .dropped 1 s).trans (works_raise .drop _)).trans (works_captureError _ _)).trans (works_retire _)

theorem works_complete (n : Fin 8) (e : Entry) (r : TxnResult) (s : State) : Works s (complete n e r s) :=
  .of_eq rfl rfl rfl

theorem works_failEntry (n : Fin 8) (e : Entry) (r : TxnResult) (k : ErrorKind) (s : State) :
    Works s (failEntry n e r k s) :=
  (works_complete n e r s).trans (works_captureError _ _)

theorem works_busyEntry (n : Fin 8) (e : Entry) (s : State) : Works s (busyEntry n e s) := by
  by_cases hretry : mayRetry e.budget e.attempts = true
  · rw [busyEntry_of_mayRetry s hretry]
    exact (works_bump .busySeen 1 s).trans (.of_eq rfl rfl rfl)
  · rw [busyEntry_of_exhausted s hretry]
    exact (works_bump .busySeen 1 s).trans (works_failEntry _ _ _ _ _)

theorem works_busyHead (h : Item) (s : State) : Works s (busyHead h s) := by
  by_cases hretry : mayRetry h.budget h.attempts = true
  · rw [busyHead_of_mayRetry s hretry]
    exact (works_bump .busySeen 1 s).trans (.of_eq rfl rfl rfl)
  · rw [busyHead_of_exhausted s hretry]
    exact (works_bump .busySeen 1 s).trans (works_dropHead _ _ _)

theorem works_entryOutcome (n : Fin 8) (o : CellOutcome) (s : State) : Works s (entryOutcome n o s) := by
  unfold entryOutcome
  split
  · exact .refl s
  · split
    · cases o with
      | accept data => exact works_complete _ _ _ s
      | busy => exact works_busyEntry _ _ s
      | reject | noAnswer | malformed => exact works_failEntry _ _ _ _ s
    · exact .refl s

theorem works_headOutcome (o : CellOutcome) (s : State) : Works s (headOutcome o s) := by
  unfold headOutcome
  split
  · exact .refl s
  · split
    · cases o with
      | accept data => exact works_retire s
      | busy => exact works_busyHead _ s
      | reject | noAnswer | malformed => exact works_dropHead _ _ s
    · exact .refl s

theorem works_handOutcome (o : Origin) (c : CellOutcome) (s : State) : Works s (handOutcome o c s) := by
  cases o with
  | dtt n => exact works_entryOutcome n c s
  | posted => exact works_headOutcome c s

theorem works_response (origin gen : BitVec 4) (code : BitVec 3) (p : List Byte) (s : State) :
    Works s (response origin gen code p s) := by
  unfold response
  split
  · exact (Works.of_eq rfl rfl rfl : Works s (removeRecord _ s)).trans (works_handOutcome _ _ _)
  · exact (works_bump .stray 1 s).trans (works_raise .stray _)

theorem works_responseExpiryOp (o : Origin) (s : State) : Works s (responseExpiryOp o s) := by
  unfold responseExpiryOp
  split
  · exact (Works.of_eq rfl rfl rfl : Works s (removeRecord o s)).trans (works_handOutcome _ _ _)
  · exact .refl s

theorem works_deferralExpiryOp (o : Origin) (s : State) : Works s (deferralExpiryOp o s) := by
  cases o with
  | dtt n =>
    simp only [deferralExpiryOp]
    split
    · split
      · exact .of_eq rfl rfl rfl
      · exact .refl s
    · exact .refl s
  | posted =>
    simp only [deferralExpiryOp]
    split
    · split
      · exact .of_eq rfl rfl rfl
      · exact .refl s
    · exact .refl s

theorem works_reportLoss (n : Fin 8) (e : Entry) (r : TxnResult) (s : State) : Works s (reportLoss n e r s) := by
  unfold reportLoss
  split
  · exact (works_raise .lostResult s).trans (works_captureError _ _)
  · exact .refl s

theorem works_freeEntry (n : Fin 8) (s : State) : Works s (freeEntry n s) := .of_eq rfl rfl rfl

theorem works_discardExpiryOp (n : Fin 8) (s : State) : Works s (discardExpiryOp n s) := by
  unfold discardExpiryOp
  split
  · split
    · exact ((((works_freeEntry n s).trans (works_bump .discarded 1 _)).trans (works_raise .discard _)).trans
        (works_reportLoss _ _ _ _)).trans (works_notice _)
    · exact .refl s
  · exact .refl s

theorem works_purgeEntry (n : Fin 8) (s : State) : Works s (purgeEntry n s) := by
  unfold purgeEntry
  split
  · exact ((works_freeEntry n s).trans (works_bump .discarded 1 _)).trans (works_notice _)
  · exact .refl s

/-- A run over a list of operations that are each such work. -/
theorem Works.foldl {α : Type} {f : State → α → State} (hf : ∀ s x, Works s (f s x)) (l : List α) (s : State) :
    Works s (l.foldl f s) := by
  induction l generalizing s with
  | nil => exact .refl s
  | cons x l ih => exact (hf s x).trans (ih (f s x))

theorem works_tellIssued (o : Origin) (s : State) : Works s (tellIssued o s) := by
  cases o with
  | dtt n =>
    simp only [tellIssued]
    split
    · exact .of_eq rfl rfl rfl
    · exact .refl s
  | posted =>
    simp only [tellIssued]
    split
    · exact .of_eq rfl rfl rfl
    · exact .refl s

theorem works_issueOrigin (o : Origin) (rest : List Origin) (r : Request) (s : State) :
    Works s (issueOrigin o rest r s) := by
  rw [issueOrigin_eq]
  exact ((Works.of_eq rfl rfl rfl : Works s (frontTaken o rest r s)).trans (works_tellIssued o _)).trans
    (.of_eq rfl rfl rfl)

theorem works_issueOp (s : State) : Works s (issueOp s) := by
  unfold issueOp
  split
  · split
    · exact .refl s
    · split
      · exact works_issueOrigin _ _ _ s
      · exact .refl s
  · exact .refl s

theorem works_appendItem (i : Item) (s : State) : Works s (appendItem i s) := by
  rw [appendItem_eq]
  exact .of_eq rfl rfl rfl

theorem works_faultWith (i : ErrorInfo) (s : State) : Works s (faultWith i s) :=
  (works_captureError i s).trans (works_reply _ _)

theorem works_capture (a : Access) (n : Fin 16) (w : Window) (s : State) : Works s (capture a n w s) := by
  unfold capture
  split
  · rw [captureAt_eq]
    exact .of_eq rfl rfl rfl
  · exact ((works_bump .captureRefused 1 s).trans (works_raise .full _)).trans (works_reply _ _)

theorem works_accept (a : Access) (n : Fin 16) (w : Window) (s : State) : Works s (accept a n w s) := by
  unfold accept
  split
  · exact (works_appendItem _ s).trans (works_reply _ _)
  · exact ((works_bump .postRefused 1 s).trans (works_raise .full _)).trans (works_reply _ _)

/-- Steps 6 and 7 refuse an access, accept it, or capture it. -/
theorem throughWindow_cases (a : Access) (n : Fin 16) (w : Window) (s : State) :
    (∃ i, throughWindow a n w s = faultWith i s) ∨
      (w.slot ≠ s.rack.ownSlot ∧ a.kind = .write ∧ throughWindow a n w s = accept a n w s) ∨
      (w.slot ≠ s.rack.ownSlot ∧ throughWindow a n w s = capture a n w s) := by
  unfold throughWindow
  split
  · exact .inl ⟨_, rfl⟩
  · split
    · exact .inl ⟨_, rfl⟩
    · split
      · exact .inl ⟨_, rfl⟩
      · unfold route
        split
        next hroute => exact .inr (.inl ⟨‹_›, hroute.1, rfl⟩)
        next => exact .inr (.inr ⟨‹_›, rfl⟩)

theorem works_throughWindow (a : Access) (n : Fin 16) (w : Window) (s : State) : Works s (throughWindow a n w s) := by
  obtain ⟨i, h⟩ | ⟨-, -, h⟩ | ⟨-, h⟩ := throughWindow_cases a n w s <;> rw [h]
  · exact works_faultWith i s
  · exact works_accept a n w s
  · exact works_capture a n w s

/-- Steps 3 to 7 refuse an access, tell it to come back, or bring it to a window (R78 to R80). -/
theorem newAccess_cases (a : Access) (s : State) :
    (∃ i, newAccess a s = faultWith i s) ∨ newAccess a s = s.reply .retry ∨
      ∃ n w, s.bridge.state = .running ∧ s.rack.state ≠ .down ∧ s.windows.lookup a.address = some (n, w) ∧
        newAccess a s = throughWindow a n w s := by
  cases hstate : s.bridge.state with
  | stopped => exact .inl ⟨_, newAccess_of_stopped hstate⟩
  | draining => exact .inr (.inl (newAccess_of_closed (.inl hstate)))
  | drained => exact .inr (.inl (newAccess_of_closed (.inr hstate)))
  | running =>
    by_cases hdown : s.rack.state = .down
    · exact .inl ⟨_, newAccess_of_down hstate hdown⟩
    · cases hlook : s.windows.lookup a.address with
      | none => exact .inl ⟨_, newAccess_of_noWindow hstate hdown ((lookup_eq_none _ _).1 hlook)⟩
      | some found =>
        obtain ⟨n, w⟩ := found
        exact .inr (.inr ⟨n, w, rfl, hdown, rfl, newAccess_of_lookup hstate hdown hlook⟩)

theorem works_newAccess (a : Access) (s : State) : Works s (newAccess a s) := by
  obtain ⟨i, h⟩ | h | ⟨n, w, -, -, -, h⟩ := newAccess_cases a s <;> rw [h]
  · exact works_faultWith i s
  · exact works_reply _ s
  · exact works_throughWindow a n w s

theorem works_represent (a : Access) (n : Fin 8) (e : Entry) (s : State) : Works s (represent a n e s) := by
  unfold represent
  split
  · exact works_faultWith _ s
  · split
    · exact ((works_freeEntry n s).trans (works_notice _)).trans (works_reply _ _)
    · exact works_reply _ s

theorem works_windowSelect (a : Access) (s : State) : Works s (windowSelect a s) := by
  unfold windowSelect
  split
  · exact works_faultWith _ s
  · split
    · exact works_represent a _ _ s
    · exact works_newAccess a s

theorem works_discardQueue (s : State) : Works s (discardQueue s) := by
  unfold discardQueue
  split
  · exact .refl s
  next h _ _ =>
    have hcaptured : Works s (captureError (itemError .rackDown h) (raise .drop (bump .dropped s.pwq.items.length s))) :=
      ((works_bump .dropped _ s).trans (works_raise .drop _)).trans (works_captureError _ _)
    refine (hcaptured.trans ?_).trans (works_notice _)
    exact .of_eq rfl rfl rfl

theorem works_enterDown (s : State) : Works s (enterDown s) :=
  (((Works.of_eq rfl rfl rfl : Works s (completeRackDown (flushArbiter { s with
    rack := { s.rack with state := .down } }))).trans (works_discardQueue _)).trans (works_raise .rackDown _))

/-! ## Reception -/

/-- What the reception of a cell can lead to: nothing, a damaged cell counted, a response handed on, or a request answered,
a MESSAGE after its arrival (R105, R118 to R121). -/
theorem receive_cases (f : List Byte) (s : State) :
    receive f s = s ∨ receive f s = bump .cellErr 1 s ∨
      (s.rack.state ≠ .down ∧ ∃ origin gen code p, receive f s = response origin gen code p s) ∨
      (∃ a, receive f s = answerRequest f a s) ∨
      ∃ a sender p, receive f s = answerRequest f a (arrival sender p s) := by
  unfold receive
  split
  · exact .inl rfl
  · split
    · exact .inr (.inl rfl)
    · split
      · exact .inl rfl
      · split
        · exact .inr (.inr (.inl ⟨‹_›, _, _, _, _, rfl⟩))
        · unfold inboundRequest
          split
          · exact .inr (.inr (.inr (.inr ⟨_, _, _, rfl⟩)))
          · exact .inr (.inr (.inr (.inl ⟨_, rfl⟩)))

/-- An arrival is stored by a queue that accepts it, or counted and raised. -/
theorem arrival_cases (sender : Slot) (p : List Byte) (s : State) :
    (arrivalAnswer s.imq sender p.length = .accept ∧
        arrival sender p s = { s with imq := storeMessage sender p s.imq }) ∨
      arrival sender p s = raise .imqRefused (bump .imqRefused 1 s) := by
  by_cases h : arrivalAnswer s.imq sender p.length = .accept
  · exact .inl ⟨h, arrival_of_accepted h⟩
  · exact .inr (arrival_of_refused h)

/-- Reception is the part's own work, but for a message stored. -/
theorem receive_works_or_stores (f : List Byte) (s : State) :
    Works s (receive f s) ∨ ∃ a sender p, arrivalAnswer s.imq sender p.length = .accept ∧
      receive f s = answerRequest f a { s with imq := storeMessage sender p s.imq } := by
  obtain h | h | ⟨-, origin, gen, code, p, h⟩ | ⟨a, h⟩ | ⟨a, sender, p, h⟩ := receive_cases f s <;> rw [h]
  · exact .inl (.refl s)
  · exact .inl (works_bump _ _ s)
  · exact .inl (works_response _ _ _ _ s)
  · exact .inl (.of_eq rfl rfl rfl)
  · obtain ⟨haccept, h⟩ | h := arrival_cases sender p s <;> rw [h]
    · exact .inr ⟨a, sender, p, haccept, rfl⟩
    · exact .inl (((works_bump _ _ s).trans (works_raise _ _)).trans (.of_eq rfl rfl rfl))

end Sys2Proof.Machine
end

section
/-! SUPPORT. What register writes leave alone, and the invariants of the IMQ, of the settings and windows, and of the event
unit, which hold from any state. -/

namespace Sys2Proof.Machine

/-! ## Register writes with several effects -/

/-- What holds of the six bridge commands and of no command holds of a write of the bridge command register. -/
theorem bridgeCommandWrite_induction {P : State → Prop} (w : Word) {s : State} (hnone : P s) (hstart : P (startOp s))
    (hdrain : P (drainOp s)) (hpurge : P (purgeOp s)) (hstop : P (stopOp s)) (hgo : P (goOp s)) (hpause : P (pauseOp s)) :
    P (bridgeCommandWrite w s) := by
  unfold bridgeCommandWrite
  split <;> assumption

/-- A bridge command keeps the setup and reports to the event unit. -/
abbrev Steers (s t : State) : Prop :=
  t.setup = s.setup ∧ Reports s t

theorem steers_of_eq {s t : State} (hsetup : t.setup = s.setup) (hevents : t.events = s.events) : Steers s t :=
  ⟨hsetup, .of_events hevents⟩

theorem Works.steers {s t u : State} (h : Steers s t) (k : Works t u) : Steers s u :=
  ⟨k.setup.trans h.1, h.2.trans k.reports⟩

theorem steers_drainOp (s : State) : Steers s (drainOp s) := by
  have hdraining : Steers s (setBridge .draining s) := steers_of_eq rfl rfl
  unfold drainOp
  split
  · exact (works_notice _).steers hdraining
  all_goals exact steers_of_eq rfl rfl

theorem steers_purgeOp (s : State) : Steers s (purgeOp s) := by
  have hok : Steers s (setStatus .ok s) := steers_of_eq rfl rfl
  have hpurge : Works (setStatus .ok s) (eight.foldl (fun t n => purgeEntry n t) (setStatus .ok s)) :=
    Works.foldl (fun t n => works_purgeEntry n t) eight _
  unfold purgeOp
  split
  · exact hpurge.steers hok
  · exact hpurge.steers hok
  all_goals exact steers_of_eq rfl rfl

theorem steers_stopOp (s : State) : Steers s (stopOp s) := by
  unfold stopOp
  split <;> exact steers_of_eq rfl rfl

theorem steers_goOp (s : State) : Steers s (goOp s) := by
  unfold goOp
  split <;> exact steers_of_eq rfl rfl

theorem steers_pauseOp (s : State) : Steers s (pauseOp s) := by
  unfold pauseOp
  split <;> exact steers_of_eq rfl rfl

theorem steers_bridgeCommandWrite (w : Word) (s : State) : Steers s (bridgeCommandWrite w s) :=
  bridgeCommandWrite_induction w (steers_of_eq rfl rfl) (steers_of_eq rfl rfl) (steers_drainOp s) (steers_purgeOp s)
    (steers_stopOp s) (steers_goOp s) (steers_pauseOp s)

/-- What holds of every window status alone, of COMMIT of a record that passes, of LOAD and of DISABLE holds of a write of the
window command register. -/
theorem windowCommandWrite_induction {P : State → Prop} (w : Word) {s : State} (hnone : P s)
    (hstatus : ∀ v, P (setWindowStatus v s))
    (hcommit : s.windows.staging.judge = .ok → ∀ n, P (setWindowStatus .ok (setWindow n s.windows.staging s)))
    (hload : ∀ n, P (loadEntry n s)) (hdisable : ∀ n, P (disableEntry n s)) : P (windowCommandWrite w s) := by
  have hindexed (n : BitVec 8) (effect : Fin 16 → State → State) (heffect : ∀ m, P (effect m s)) :
      P (windowCommand n effect s) := by
    unfold windowCommand
    split
    · exact heffect _
    · exact hstatus _
  unfold windowCommandWrite
  split
  · refine hindexed _ _ fun n => ?_
    by_cases hok : s.windows.staging.judge = .ok
    · exact commitEntry_of_ok (n := n) hok ▸ hcommit hok n
    · exact commitEntry_of_refused (n := n) rfl hok ▸ hstatus _
  · exact hindexed _ _ hload
  · exact hindexed _ _ hdisable
  · exact hnone

/-- A window command changes the window table alone. -/
theorem windowCommandWrite_frame (w : Word) (s : State) :
    ∃ table, windowCommandWrite w s = { s with windows := table } :=
  windowCommandWrite_induction (P := fun t => ∃ table, t = { s with windows := table }) w ⟨_, rfl⟩ (fun _ => ⟨_, rfl⟩)
    (fun _ _ => ⟨_, rfl⟩) (fun _ => ⟨_, rfl⟩) (fun _ => ⟨_, rfl⟩)

/-- A write of a compose register changes the compose buffer but for the send status and the message retry settings. -/
theorem composeWriteOp_frame (f : ComposeReg) (w : Word) (s : State) :
    ∃ destination length payload, composeWriteOp f w s = { s with
      compose := { s.compose with destination := destination, length := length, payload := payload } } := by
  cases f <;> exact ⟨_, _, _, rfl⟩

/-- SEND changes the send status, and the PWQ and the ready list where it is QUEUED. -/
theorem sendOp_frame (s : State) :
    ∃ status items ready, sendOp s = { s with
      pwq := { s.pwq with items := items }
      arbiter := { s.arbiter with ready := ready }
      compose := { s.compose with sendStatus := status } } := by
  by_cases hqueued : sendVerdict s = .queued
  · rw [sendOp_of_queued hqueued, appendItem_eq]
    exact ⟨_, _, _, rfl⟩
  · exact ⟨sendVerdict s, s.pwq.items, s.arbiter.ready, sendOp_of_refused rfl hqueued⟩

/-- POP changes the IMQ alone, and keeps its settings and its sequence number. -/
theorem popOp_frame (s : State) :
    ∃ messages counts status, popOp s = { s with
      imq := { s.imq with messages := messages, counts := counts, status := status } } := by
  unfold popOp
  split <;> exact ⟨_, _, _, rfl⟩

/-! ## The IMQ (R144 to R146) -/

section Queue

variable {q : Imq}

/-- Which arrivals are answered ACCEPT (R149). -/
theorem accepted_of_arrivalAnswer {sender : Slot} {n : Nat} (h : arrivalAnswer q sender n = .accept) :
    goodLength n = true ∧ q.messages.length < 32 := by
  by_contra hno
  by_cases hon : q.enable = true
  · by_cases hgood : goodLength n = true
    · have hfull : 32 ≤ q.messages.length := not_lt.1 fun hroom => hno ⟨hgood, hroom⟩
      rw [arrivalAnswer_busy hon hgood (.inr hfull)] at h
      contradiction
    · rw [arrivalAnswer_badLength hgood] at h
      contradiction
  · rw [arrivalAnswer_disabled (by simpa using hon)] at h
    contradiction

/-- The count of a sender after another count is set. -/
theorem get_withCount (q : Imq) (sender : Slot) (v : Nat) (n : Fin 16) :
    (q.withCount sender v).counts.get n = if sender.toFin = n then v else q.counts.get n := by
  simp [Imq.withCount, Vector.get, Array.getElem_set, Fin.ext_iff]
  rfl

/-- Storing a message of a good length in a queue with room keeps the queue consistent. -/
theorem consistent_storeMessage {sender : Slot} {p : List Byte} (hq : q.consistent) (hgood : goodLength p.length = true)
    (hroom : q.messages.length < 32) : (storeMessage sender p q).consistent := by
  obtain ⟨-, hlengths, hsequence, hcounts⟩ := hq
  refine ⟨?depth, ?lengths, ?sequence, ?counts⟩
  case depth =>
    simp only [storeMessage, List.length_append, List.length_singleton]
    exact hroom
  case lengths =>
    intro m hm
    obtain hm | rfl : m ∈ q.messages ∨ m = _ := by simpa [storeMessage] using hm
    · exact hlengths m hm
    · exact hgood
  case sequence =>
    rintro ⟨i, hi⟩
    have hi' : i < q.messages.length + 1 := by simpa [storeMessage] using hi
    simp only [storeMessage, List.get_eq_getElem, List.length_append, List.length_singleton]
    rw [List.getElem_append]
    split
    next hold =>
      have hlen : q.messages.length + 1 - i = (q.messages.length - i) + 1 := by omega
      rw [hlen, BitVec.ofNat_add, ← BitVec.add_assoc]
      exact congrArg (· + 1) (hsequence ⟨i, hold⟩)
    next hnew =>
      have hlast : i = q.messages.length := by omega
      subst hlast
      simp
  case counts =>
    intro n
    show (q.withCount sender (q.count sender + 1)).counts.get n = (q.messages ++ [_]).countP _
    rw [get_withCount, List.countP_append, ← hcounts]
    by_cases hsender : sender.toFin = n
    · subst hsender
      simp [Imq.count]
    · simp [hsender]

/-- Removing the head keeps the queue consistent. -/
theorem consistent_removeHead {m : Message} {rest : List Message} (hq : q.consistent) (hhead : q.messages = m :: rest) :
    Imq.consistent { q.withCount m.sender (q.count m.sender - 1) with messages := rest, status := .ok } := by
  obtain ⟨hdepth, hlengths, hsequence, hcounts⟩ := hq
  rw [hhead] at hdepth
  refine ⟨(Nat.le_succ _).trans hdepth, fun k hk => hlengths k (hhead ▸ List.mem_cons_of_mem m hk), ?sequence, ?counts⟩
  case sequence =>
    rintro ⟨i, hi⟩
    have hi' : i + 1 < q.messages.length := by rw [hhead]; exact Nat.succ_lt_succ hi
    have hget : q.messages.get ⟨i + 1, hi'⟩ = rest[i]'hi := by simp [hhead]
    have hlen : q.messages.length - (i + 1) = rest.length - i := by simp [hhead]
    have h := hsequence ⟨i + 1, hi'⟩
    rwa [hget, hlen] at h
  case counts =>
    intro n
    show (q.withCount m.sender (q.count m.sender - 1)).counts.get n = rest.countP _
    have hn := hcounts n
    rw [hhead, List.countP_cons] at hn
    rw [get_withCount]
    by_cases hsender : m.sender.toFin = n
    · subst hsender
      simp [Imq.count, hn]
    · simpa [hsender] using hn

end Queue

/-- POP keeps the IMQ consistent. -/
theorem consistent_popOp {s : State} (h : s.imq.consistent) : (popOp s).imq.consistent := by
  unfold popOp
  split
  · exact h
  · exact consistent_removeHead h ‹_›

/-- Reception keeps the IMQ consistent. -/
theorem consistent_receive (f : List Byte) {s : State} (h : s.imq.consistent) : (receive f s).imq.consistent := by
  obtain hworks | ⟨a, sender, p, haccept, heq⟩ := receive_works_or_stores f s
  · rwa [imq_of_setup hworks.setup]
  · obtain ⟨hgood, hroom⟩ := accepted_of_arrivalAnswer haccept
    rw [heq]
    exact consistent_storeMessage h hgood hroom

/-- A register write keeps the IMQ consistent: only POP and the IMQ control reach it. -/
theorem consistent_writeReg (r : Reg) (w : Word) {s : State} (h : s.imq.consistent) :
    (writeReg r w s).imq.consistent := by
  cases r with
  | pop => exact consistent_popOp h
  | bridgeCommand =>
    rw [writeReg, imq_of_setup (steers_bridgeCommandWrite w s).1]
    exact h
  | windowCommand =>
    obtain ⟨table, heq⟩ := windowCommandWrite_frame w s
    rw [writeReg, heq]
    exact h
  | compose f =>
    obtain ⟨_, _, _, heq⟩ := composeWriteOp_frame f w s
    rw [writeReg, heq]
    exact h
  | send =>
    obtain ⟨_, _, _, heq⟩ := sendOp_frame s
    rw [writeReg, heq]
    exact h
  | _ => exact h

/-- The IMQ after card reset is consistent. -/
theorem consistent_reset : State.reset.imq.consistent := by
  decide

/-- Settles O5: the queue is changed by an arrival stored, by POP, by its control and by card reset, and by nothing else. -/
theorem everyCommandKeepsTheInboundQueueConsistent : Obligations.EveryCommandKeepsTheInboundQueueConsistent := by
  intro c s t hs hexec
  have hkept {u : State} (hworks : Works s.quiet u) : u.imq.consistent := by
    rw [imq_of_setup hworks.setup]
    exact hs
  cases exec_ran hexec with
  | replied | quieted | ticked | crstReleased | rrstFollowed | rrstReleased => exact hs
  | wrote w => exact consistent_writeReg _ w hs
  | accessed a =>
    rw [imq_of_setup (works_windowSelect a s).setup]
    exact hs
  | noticed => exact hkept (works_notice _)
  | issued => exact hkept (works_issueOp _)
  | received _ f => exact consistent_receive f (s := s.quiet) hs
  | responseExpired _ o => exact hkept (works_responseExpiryOp o _)
  | deferralExpired _ o => exact hkept (works_deferralExpiryOp o _)
  | discardExpired _ n => exact hkept (works_discardExpiryOp n _)
  | cardReset => exact consistent_reset
  | rrstAsserted =>
    rw [imq_of_setup (works_enterDown _).setup]
    exact hs

/-! ## Settings and windows (R53, R185) -/

theorem takeNonzero_ne_zero (b : BitVec 8) : takeNonzero b ≠ 0 := by
  revert b; decide

theorem takeDiscardTime_legal (c : BitVec 5) :
    takeDiscardTime c = 0 ∨ (6 ≤ (takeDiscardTime c).toNat ∧ (takeDiscardTime c).toNat ≤ 16) := by
  revert c; decide

theorem takeIssueCap_legal (c : BitVec 3) : 1 ≤ (takeIssueCap c).toNat ∧ (takeIssueCap c).toNat ≤ 4 := by
  revert c; decide

theorem takeQuota_legal (q : BitVec 6) : 1 ≤ (takeQuota q).toNat ∧ (takeQuota q).toNat ≤ 32 := by
  revert q; decide

/-- The entry of a window after another is replaced. -/
theorem get_set_window (v : Vector Window 16) (n m : Fin 16) (w : Window) :
    (v.set n.val w n.isLt).get m = if n = m then w else v.get m := by
  simp [Vector.get, Array.getElem_set, Fin.ext_iff]
  rfl

/-- Replacing an entry by a legal or a disabled one keeps the windows legal. -/
theorem windowsLegal_setWindow {s : State} {w : Window} (n : Fin 16) (h : s.windowsLegal)
    (hw : w.enable = true → w.judge = .ok) : (setWindow n w s).windowsLegal := by
  intro m
  show ((s.windows.entries.set n.val w n.isLt).get m).enable = true → _
  rw [setWindow_windows, get_set_window]
  split
  · exact hw
  · exact h m

/-- A window command keeps the windows legal: COMMIT installs a record that passed the checks. -/
theorem windowsLegal_windowCommandWrite (w : Word) {s : State} (h : s.windowsLegal) :
    (windowCommandWrite w s).windowsLegal :=
  windowCommandWrite_induction w h (fun _ => h) (fun hok n => windowsLegal_setWindow n h fun _ => hok) (fun _ => h)
    (fun n => windowsLegal_setWindow n h fun hon => absurd hon Bool.false_ne_true)

/-- Settings and windows together, as every command keeps them. -/
abbrev State.legal (s : State) : Prop :=
  s.settingsLegal ∧ s.windowsLegal

theorem legal_of_setup {s t : State} (h : t.setup = s.setup) (hs : s.legal) : t.legal :=
  ⟨settingsLegal_of_setup h hs.1, windowsLegal_of_setup h hs.2⟩

/-- A register write keeps settings and windows legal: each setting takes a legal value (R185). -/
theorem legal_writeReg (r : Reg) (w : Word) {s : State} (h : s.legal) : (writeReg r w s).legal := by
  obtain ⟨hset, hwin⟩ := h
  obtain ⟨htimebase, htick, hresp, hstep, hdiscard, hcap, hquota⟩ := id hset
  cases r with
  | bridgeCommand => exact legal_of_setup (steers_bridgeCommandWrite w s).1 ⟨hset, hwin⟩
  | timebase => exact ⟨⟨takeNonzero_ne_zero _, htick, hresp, hstep, hdiscard, hcap, hquota⟩, hwin⟩
  | respTimeout => exact ⟨⟨htimebase, htick, takeNonzero_ne_zero _, hstep, hdiscard, hcap, hquota⟩, hwin⟩
  | discardTime => exact ⟨⟨htimebase, htick, hresp, hstep, takeDiscardTime_legal _, hcap, hquota⟩, hwin⟩
  | issueCap => exact ⟨⟨htimebase, htick, hresp, hstep, hdiscard, takeIssueCap_legal _, hquota⟩, hwin⟩
  | msgRetry => exact ⟨⟨htimebase, htick, hresp, takeNonzero_ne_zero _, hdiscard, hcap, hquota⟩, hwin⟩
  | imqControl => exact ⟨⟨htimebase, htick, hresp, hstep, hdiscard, hcap, takeQuota_legal _⟩, hwin⟩
  | windowCommand =>
    refine ⟨?_, windowsLegal_windowCommandWrite w hwin⟩
    obtain ⟨table, heq⟩ := windowCommandWrite_frame w s
    rw [writeReg, heq]
    exact hset
  | compose f =>
    obtain ⟨_, _, _, heq⟩ := composeWriteOp_frame f w s
    rw [writeReg, heq]
    exact ⟨hset, hwin⟩
  | send =>
    obtain ⟨_, _, _, heq⟩ := sendOp_frame s
    rw [writeReg, heq]
    exact ⟨hset, hwin⟩
  | pop =>
    obtain ⟨_, _, _, heq⟩ := popOp_frame s
    rw [writeReg, heq]
    exact ⟨hset, hwin⟩
  | _ => exact ⟨hset, hwin⟩

theorem legal_reset : State.reset.legal := by
  decide

/-- Settles O6: the settings and the windows change by register writes, which take legal values alone, and by card reset. -/
theorem everyCommandKeepsSettingsAndWindowsLegal : Obligations.EveryCommandKeepsSettingsAndWindowsLegal := by
  intro c s t hset hwin hexec
  have hs : s.legal := ⟨hset, hwin⟩
  obtain ⟨htimebase, -, hrest⟩ := id hset
  have hkept {u : State} (hworks : Works s.quiet u) : u.legal := legal_of_setup hworks.setup hs
  cases exec_ran hexec with
  | replied | quieted | rrstFollowed | rrstReleased => exact hs
  | wrote w => exact legal_writeReg _ w hs
  | accessed a => exact legal_of_setup (works_windowSelect a s).setup hs
  | noticed => exact hkept (works_notice _)
  | issued => exact hkept (works_issueOp _)
  | received _ f =>
    obtain hworks | ⟨a, sender, p, -, heq⟩ := receive_works_or_stores f s.quiet
    · exact hkept hworks
    · rw [heq]
      exact hs
  | responseExpired _ o => exact hkept (works_responseExpiryOp o _)
  | deferralExpired _ o => exact hkept (works_deferralExpiryOp o _)
  | discardExpired _ n => exact hkept (works_discardExpiryOp n _)
  | ticked | crstReleased => exact ⟨⟨htimebase, htimebase, hrest⟩, hwin⟩
  | cardReset => exact legal_reset
  | rrstAsserted => exact legal_of_setup (works_enterDown _).setup hs

/-! ## The event unit (R171, R178, R181) -/

/-- A register write outside of the event unit's registers reports to the event unit at most. -/
theorem reports_writeReg {r : Reg} (w : Word) (s : State) (hpending : r ≠ .eventPending)
    (hcounter : ∀ c, r ≠ .counter c) (herrclr : r ≠ .errclr) : Reports s (writeReg r w s) := by
  cases r with
  | eventPending => exact absurd rfl hpending
  | eventEnable => exact .of_eq rfl rfl rfl
  | counter c => exact absurd rfl (hcounter c)
  | errclr => exact absurd rfl herrclr
  | bridgeCommand => exact (steers_bridgeCommandWrite w s).2
  | windowCommand =>
    obtain ⟨table, heq⟩ := windowCommandWrite_frame w s
    exact .of_events (by rw [writeReg, heq])
  | compose f =>
    obtain ⟨_, _, _, heq⟩ := composeWriteOp_frame f w s
    exact .of_events (by rw [writeReg, heq])
  | send =>
    obtain ⟨_, _, _, heq⟩ := sendOp_frame s
    exact .of_events (by rw [writeReg, heq])
  | pop =>
    obtain ⟨_, _, _, heq⟩ := popOp_frame s
    exact .of_events (by rw [writeReg, heq])
  | _ => exact .of_events rfl

/-- A register write keeps every count within its end. -/
theorem countsBounded_writeReg (r : Reg) (w : Word) {s : State} (h : s.countsBounded) :
    (writeReg r w s).countsBounded := by
  cases r with
  | eventPending => exact h
  | counter c =>
    refine ⟨fun d hd => ?_, h.2⟩
    show (s.events.counters.put c 0).get d ≤ _
    rw [get_put]
    split
    · exact Nat.zero_le _
    · exact h.1 d hd
  | errclr => exact ⟨h.1, Nat.zero_le _⟩
  | _ =>
    exact (reports_writeReg w s (fun hr => Reg.noConfusion hr) (fun c hr => Reg.noConfusion hr)
      (fun hr => Reg.noConfusion hr)).countsBounded h

/-- A register write but ERRCLR keeps a held error. -/
theorem held_writeReg {r : Reg} (w : Word) {s : State} {h : Held} (herrclr : r ≠ .errclr)
    (hheld : s.events.capture = some h) (hle : h.overflow ≤ Config.overflowMax) :
    ∃ h' : Held, (writeReg r w s).events.capture = some h' ∧ h'.error = h.error ∧ h.overflow ≤ h'.overflow ∧
      h'.overflow ≤ Config.overflowMax := by
  cases r with
  | errclr => exact absurd rfl herrclr
  | eventPending | counter => exact ⟨h, hheld, rfl, le_rfl, hle⟩
  | _ =>
    exact (reports_writeReg w s (fun hr => Reg.noConfusion hr) (fun c hr => Reg.noConfusion hr)
      (fun hr => Reg.noConfusion hr)).held h hheld hle

/-- Every command but a register write and a card reset reports to the event unit at most. -/
theorem exec_reports {c : Instr} {s t : State} (h : Ran c s t) (hreset : c ≠ .cardReset) :
    Reports s t ∨ ∃ r w, c.target = some r ∧ t = (writeReg r w s).reply (.done .nothing) := by
  have hquiet {u : State} (hworks : Works s.quiet u) : Reports s u := ((works_quiet s).trans hworks).reports
  cases h with
  | wrote w _ htarget => exact .inr ⟨_, w, htarget, rfl⟩
  | replied | quieted | ticked | crstReleased | rrstFollowed => exact .inl (.of_events rfl)
  | accessed a => exact .inl (works_windowSelect a s).reports
  | noticed => exact .inl (hquiet (works_notice _))
  | issued => exact .inl (hquiet (works_issueOp _))
  | received _ f =>
    obtain hworks | ⟨_, _, _, -, heq⟩ := receive_works_or_stores f s.quiet
    · exact .inl (hquiet hworks)
    · exact .inl (.of_events (by rw [heq]; rfl))
  | responseExpired _ o => exact .inl (hquiet (works_responseExpiryOp o _))
  | deferralExpired _ o => exact .inl (hquiet (works_deferralExpiryOp o _))
  | discardExpired _ n => exact .inl (hquiet (works_discardExpiryOp n _))
  | cardReset => exact absurd rfl hreset
  | rrstAsserted =>
    have hline : Reports s (setRrst true s.quiet) := .of_events rfl
    exact .inl (hline.trans (works_enterDown _).reports)
  | rrstReleased pins =>
    have hport : Reports s { setRrst false s.quiet with rack := { state := .paused, ownSlot := pins } } := .of_events rfl
    exact .inl (hport.trans (reports_raise .rackUp _))

theorem countsBounded_reset : State.reset.countsBounded := by
  decide

/-- Settles O7: counts change by reports, by register writes that clear them, and by card reset. -/
theorem everyCommandKeepsTheCountsBounded : Obligations.EveryCommandKeepsTheCountsBounded := by
  intro c s t hs hexec
  by_cases hreset : c = .cardReset
  · subst hreset
    obtain rfl := Host.Outcome.next.inj hexec
    exact countsBounded_reset
  · obtain hreports | ⟨r, w, -, rfl⟩ := exec_reports (exec_ran hexec) hreset
    · exact hreports.countsBounded hs
    · exact countsBounded_writeReg r w hs

/-- Settles O8: a report keeps a held error, and so does every register write but ERRCLR. -/
theorem heldErrorStaysUntilCleared : Obligations.HeldErrorStaysUntilCleared := by
  intro c s t h hheld hle hreset herrclr hexec
  obtain hreports | ⟨r, w, htarget, rfl⟩ := exec_reports (exec_ran hexec) hreset
  · exact hreports.held h hheld hle
  · exact held_writeReg w (fun hr => herrclr (hr ▸ htarget)) hheld hle

/-! ## The bridge state (R159) -/

/-- A register write but a bridge command keeps the bridge state. -/
theorem bridge_writeReg {r : Reg} (w : Word) (s : State) (hcommand : r ≠ .bridgeCommand) :
    (writeReg r w s).bridge = s.bridge := by
  cases r with
  | bridgeCommand => exact absurd rfl hcommand
  | windowCommand =>
    obtain ⟨table, heq⟩ := windowCommandWrite_frame w s
    rw [writeReg, heq]
  | compose f =>
    obtain ⟨_, _, _, heq⟩ := composeWriteOp_frame f w s
    rw [writeReg, heq]
  | send =>
    obtain ⟨_, _, _, heq⟩ := sendOp_frame s
    rw [writeReg, heq]
  | pop =>
    obtain ⟨_, _, _, heq⟩ := popOp_frame s
    rw [writeReg, heq]
  | _ => rfl

/-- An event whose edge bit is set is pending, but for MSG. -/
theorem isPending_of_edge {s : State} {e : Event} (hmsg : e ≠ .msg) (hedge : s.events.edges.getLsbD e.bit = true) :
    s.isPending e = true := by
  rw [isPending_eq, if_neg hmsg, hedge]

/-- Settles O9: the part's own work changes the bridge state only where it finishes a drain, and a register write only where
it is a bridge command. -/
theorem bridgeStateChangesOnlyByCommandOrDrain : Obligations.BridgeStateChangesOnlyByCommandOrDrain := by
  intro c s t hexec hchanged
  have hworks {u : State} (hworks : Works s u) (hne : u.bridge.state ≠ s.bridge.state) :
      s.bridge.state = .draining ∧ u.bridge.state = .drained ∧ u.isPending .drained = true := by
    obtain hsame | ⟨hdraining, hdrained, hedge⟩ := hworks.bridge
    · exact absurd hsame hne
    · exact ⟨hdraining, hdrained, isPending_of_edge (by decide) hedge⟩
  have hquiet {u : State} (hwork : Works s.quiet u) := hworks ((works_quiet s).trans hwork)
  cases exec_ran hexec with
  | replied | quieted | ticked | crstReleased | rrstFollowed | rrstReleased => exact absurd rfl hchanged
  | @wrote _ _ r w _ htarget =>
    by_cases hcommand : r = .bridgeCommand
    · exact .inl (hcommand ▸ htarget)
    · exact absurd (congrArg Bridge.state (bridge_writeReg w s hcommand)) hchanged
  | accessed a => exact .inr (.inr (hworks (works_windowSelect a s) hchanged))
  | noticed => exact .inr (.inr (hquiet (works_notice _) hchanged))
  | issued => exact .inr (.inr (hquiet (works_issueOp _) hchanged))
  | received _ f =>
    obtain hwork | ⟨_, _, _, -, heq⟩ := receive_works_or_stores f s.quiet
    · exact .inr (.inr (hquiet hwork hchanged))
    · rw [heq] at hchanged
      exact absurd rfl hchanged
  | responseExpired _ o => exact .inr (.inr (hquiet (works_responseExpiryOp o _) hchanged))
  | deferralExpired _ o => exact .inr (.inr (hquiet (works_deferralExpiryOp o _) hchanged))
  | discardExpired _ n => exact .inr (.inr (hquiet (works_discardExpiryOp n _) hchanged))
  | cardReset => exact .inr (.inl rfl)
  | rrstAsserted =>
    obtain hsame | ⟨hdraining, hdrained, hedge⟩ := (works_enterDown (setRrst true s.quiet)).bridge
    · exact absurd hsame hchanged
    · exact .inr (.inr ⟨hdraining, hdrained, isPending_of_edge (by decide) hedge⟩)

/-! ## The own slot (R107, R108, R113) -/

/-- A register write keeps the own slot. -/
theorem ownSlot_writeReg (r : Reg) (w : Word) (s : State) : (writeReg r w s).rack.ownSlot = s.rack.ownSlot := by
  cases r with
  | bridgeCommand => exact ownSlot_of_setup (steers_bridgeCommandWrite w s).1
  | windowCommand =>
    obtain ⟨table, heq⟩ := windowCommandWrite_frame w s
    rw [writeReg, heq]
  | compose f =>
    obtain ⟨_, _, _, heq⟩ := composeWriteOp_frame f w s
    rw [writeReg, heq]
  | send =>
    obtain ⟨_, _, _, heq⟩ := sendOp_frame s
    rw [writeReg, heq]
  | pop =>
    obtain ⟨_, _, _, heq⟩ := popOp_frame s
    rw [writeReg, heq]
  | _ => rfl

/-- Settles O10: the two releases sample or clear the own slot, card reset clears it, and all else keeps it. -/
theorem ownSlotChangesOnlyAtASampleOrCardReset : Obligations.OwnSlotChangesOnlyAtASampleOrCardReset := by
  intro c s t hexec hchanged
  have hkept {u : State} (hworks : Works s.quiet u) (hne : u.rack.ownSlot ≠ s.rack.ownSlot) : False :=
    hne (ownSlot_of_setup hworks.setup)
  cases exec_ran hexec with
  | replied | quieted | ticked | rrstFollowed => exact absurd rfl hchanged
  | wrote w => exact absurd (ownSlot_writeReg _ w s) hchanged
  | accessed a => exact absurd (ownSlot_of_setup (works_windowSelect a s).setup) hchanged
  | noticed => exact (hkept (works_notice _) hchanged).elim
  | issued => exact (hkept (works_issueOp _) hchanged).elim
  | received _ f =>
    obtain hwork | ⟨_, _, _, -, heq⟩ := receive_works_or_stores f s.quiet
    · exact (hkept hwork hchanged).elim
    · rw [heq] at hchanged
      exact absurd rfl hchanged
  | responseExpired _ o => exact (hkept (works_responseExpiryOp o _) hchanged).elim
  | deferralExpired _ o => exact (hkept (works_deferralExpiryOp o _) hchanged).elim
  | discardExpired _ n => exact (hkept (works_discardExpiryOp n _) hchanged).elim
  | cardReset => exact .inr (.inr (.inr ⟨rfl, rfl⟩))
  | @crstReleased _ pins =>
    by_cases hrrst : s.lines.rrst = true
    · exact .inr (.inr (.inl ⟨pins, rfl, hrrst, by simp [releaseCrst, hrrst]⟩))
    · exact .inr (.inl ⟨pins, rfl, by simpa using hrrst, by simp [releaseCrst, hrrst]⟩)
  | rrstAsserted => exact absurd (ownSlot_of_setup (works_enterDown (setRrst true s.quiet)).setup) hchanged
  | @rrstReleased _ pins => exact .inl ⟨pins, rfl, rfl⟩

end Sys2Proof.Machine
end

section
/-! SUPPORT. A retirement of the PWQ head as a whole: what it makes of the entries, of the queue, of the ready list and of a
drain. -/

namespace Sys2Proof.Machine

/-- The queue behind a retired head: its first item is the new READY head (R33). -/
def promoted (tl : List Item) : List Item :=
  match tl with
  | [] => []
  | i :: rest => { i with cond := .ready } :: rest

/-- What joins the ready list for a queue behind a retired head: P, if there is a new head (R46). -/
def promotedOrigins (tl : List Item) : List Origin :=
  if tl = [] then [] else [.posted]

/-- A retirement before its notice. -/
def retired (s : State) : State :=
  advanceQueue (releaseWaiters s)

section Retired

variable {s : State} {h : Item} {tl : List Item} (hitems : s.pwq.items = h :: tl)

theorem promoted_eq_nil (tl : List Item) : promoted tl = [] ↔ tl = [] := by
  cases tl <;> simp [promoted]

include hitems

/-- Before its notice, a retirement changes the entries, the queue and the ready list alone (R8, R33, R46). -/
theorem retired_eq :
    retired s = { s with
      dtt := { s.dtt with entries := mapEntries Entry.oneLess s.dtt.entries }
      pwq := { s.pwq with items := promoted tl }
      arbiter := { s.arbiter with
        ready := s.arbiter.ready ++ ((s.dtt.order.filter s.waitsForOne).map .dtt ++ promotedOrigins tl) } } := by
  have hwaiters : (releaseWaiters s).pwq.items = h :: tl := hitems
  obtain ⟨hnil, -⟩ | ⟨_, hone, heq⟩ | ⟨_, i, rest, hmore, heq⟩ := advanceQueue_cases (releaseWaiters s)
  · exact absurd (hwaiters.symm.trans hnil) (List.cons_ne_nil h tl)
  · obtain ⟨-, rfl⟩ := List.cons.inj (hwaiters.symm.trans hone)
    rw [retired, heq, releaseWaiters_frame, promotedOrigins, if_pos rfl, List.append_nil]
    rfl
  · obtain ⟨-, rfl⟩ := List.cons.inj (hwaiters.symm.trans hmore)
    rw [retired, heq, releaseWaiters_frame, promotedOrigins, if_neg (List.cons_ne_nil i rest), ← List.append_assoc]
    rfl

theorem retired_items : (retired s).pwq.items = promoted tl := by
  rw [retired_eq hitems]

theorem entry_retired (n : Fin 8) : (retired s).dtt.entry n = (s.dtt.entry n).map Entry.oneLess := by
  rw [retired_eq hitems]
  exact get_mapEntries Entry.oneLess s.dtt.entries n

theorem retired_bridge : (retired s).bridge = s.bridge := by
  rw [retired_eq hitems]

/-- A retirement is its parts, and a notice when the queue is left empty (R46). -/
theorem retire_eq : retire s = if tl = [] then notice (retired s) else retired s := by
  have hempty : (retired s).pwq.items.isEmpty = true ↔ tl = [] := by
    rw [retired_items hitems, List.isEmpty_iff, promoted_eq_nil]
  exact if_congr hempty rfl rfl

/-- The retirement of the last item leaves nothing inside when every entry is FREE. -/
theorem drainCondition_retired :
    (retired s).drainCondition = true ↔ tl = [] ∧ ∀ n : Fin 8, s.dtt.entry n = none := by
  rw [drainCondition_iff, retired_items hitems, promoted_eq_nil]
  simp [entry_retired hitems, and_comm]

/-- The notice of a retirement, if it sends one, finishes the drain or does nothing. -/
theorem retire_cases :
    ((tl = [] ∧ s.bridge.state = .draining ∧ ∀ n : Fin 8, s.dtt.entry n = none) ∧
        retire s = enterDrainedState (retired s)) ∨
      (¬ (tl = [] ∧ s.bridge.state = .draining ∧ ∀ n : Fin 8, s.dtt.entry n = none) ∧ retire s = retired s) := by
  rw [retire_eq hitems]
  by_cases hlast : tl = []
  · rw [if_pos hlast]
    obtain ⟨hdraining, hempty, heq⟩ | ⟨hno, heq⟩ := notice_cases (retired s)
    · rw [retired_bridge hitems] at hdraining
      exact .inl ⟨⟨hlast, hdraining, ((drainCondition_retired hitems).1 hempty).2⟩, heq⟩
    · refine .inr ⟨fun ⟨_, hdraining, hfree⟩ => hno ⟨?_, (drainCondition_retired hitems).2 ⟨hlast, hfree⟩⟩, heq⟩
      rwa [retired_bridge hitems]
  · rw [if_neg hlast]
    exact .inr ⟨fun hfinished => hlast hfinished.1, rfl⟩

end Retired

/-- Beyond its parts, a retirement changes the bridge state and the DRAINED event at most. -/
theorem retire_frame {s : State} {h : Item} {tl : List Item} (hitems : s.pwq.items = h :: tl) :
    retire s = { retired s with
      bridge := { s.bridge with state := (retire s).bridge.state }
      events := { s.events with edges := (retire s).events.edges } } := by
  obtain ⟨-, heq⟩ | ⟨-, heq⟩ := retire_cases hitems
  · rw [heq, retired_eq hitems]
    rfl
  · rw [heq, retired_eq hitems]

/-- One retirement, entry by entry: WAITING with something ahead has one less ahead. -/
theorem oneLess_eq (e : Entry) :
    e.oneLess = match e.phase with
      | .waiting (k + 1) => { e with phase := .waiting k }
      | _ => e := by
  unfold Entry.oneLess
  split
  next k hphase =>
    cases k with
    | zero =>
      rw [hphase]
      exact congrArg (fun p => { e with phase := p }) hphase.symm
    | succ k => rw [hphase]; rfl
  next hother =>
    split
    next k hphase => exact absurd hphase (hother (k + 1))
    next => rfl

/-- Settles O46: the parts of a retirement give entries, queue and ready list, and its notice the bridge. -/
theorem retirementReleasesWaitersAheadOfTheLane : Obligations.RetirementReleasesWaitersAheadOfTheLane := by
  intro s h tl hitems finished
  have hframe := retire_frame hitems
  refine ⟨fun n => ?entries, ?items, ?ready, fun hfinished => ?drained, fun hnot => ?busy, ?frame⟩
  case entries =>
    rw [hframe]
    exact (entry_retired hitems n).trans (congrArg (Option.map · (s.dtt.entry n)) (funext oneLess_eq))
  case items =>
    rw [hframe]
    exact retired_items hitems
  case ready =>
    have hwaits : (fun n => decide ((s.dtt.entry n).map Entry.phase = some (.waiting 1))) = s.waitsForOne := by
      funext n
      exact Bool.eq_iff_iff.2 (by rw [decide_eq_true_iff, waitsForOne_iff])
    rw [hframe, retired_eq hitems, hwaits]
    rfl
  case drained =>
    obtain ⟨-, heq⟩ | ⟨hno, -⟩ := retire_cases hitems
    · rw [heq, retired_eq hitems]
      exact ⟨rfl, rfl⟩
    · exact absurd hfinished hno
  case busy =>
    obtain ⟨hfinished, -⟩ | ⟨-, heq⟩ := retire_cases hitems
    · exact absurd hfinished hnot
    · rw [heq, retired_eq hitems]
      exact ⟨rfl, rfl⟩
  case frame =>
    rw [hframe, retired_eq hitems]

end Sys2Proof.Machine
end

section
/-! SUPPORT. The sound state, part by part: the arbiter's lists against where each origin stands, and the part of the state
that the invariants of deferred and posted work speak of. -/

namespace Sys2Proof.Machine

/-! ## Where an origin stands -/

/-- Where an origin stands with the arbiter: on the ready list, in flight, or neither. -/
inductive Turn where
  | idle
  | ready
  | flying

/-- An entry with writes-ahead 0 is ready, and an ISSUED one in flight (R9, R87). -/
def Phase.turn : Phase → Turn
  | .waiting 0 => .ready
  | .issued => .flying
  | _ => .idle

/-- A READY head is ready, and one IN-FLIGHT in flight (R33, R87). -/
def ItemCond.turn : ItemCond → Turn
  | .ready => .ready
  | .inFlight => .flying
  | _ => .idle

/-- Where each origin stands by its owner's record. -/
def State.turn (s : State) : Origin → Turn
  | .dtt n => ((s.dtt.entry n).map fun e => e.phase.turn).getD .idle
  | .posted => (s.pwq.items.head?.map fun i => i.cond.turn).getD .idle

theorem Phase.turn_eq_ready_iff (p : Phase) : p.turn = .ready ↔ p = .waiting 0 := by
  unfold Phase.turn
  split <;> simp_all

theorem Phase.turn_eq_flying_iff (p : Phase) : p.turn = .flying ↔ p = .issued := by
  unfold Phase.turn
  split <;> simp_all

theorem ItemCond.turn_eq_ready_iff (c : ItemCond) : c.turn = .ready ↔ c = .ready := by
  cases c <;> simp [ItemCond.turn]

theorem ItemCond.turn_eq_flying_iff (c : ItemCond) : c.turn = .flying ↔ c = .inFlight := by
  cases c <;> simp [ItemCond.turn]

section TurnOf

variable {s : State}

theorem turn_dtt {n : Fin 8} {e : Entry} (h : s.dtt.entry n = some e) : s.turn (.dtt n) = e.phase.turn := by
  simp [State.turn, h]

theorem turn_dtt_free {n : Fin 8} (h : s.dtt.entry n = none) : s.turn (.dtt n) = .idle := by
  simp [State.turn, h]

theorem turn_posted {i : Item} {tl : List Item} (h : s.pwq.items = i :: tl) : s.turn .posted = i.cond.turn := by
  simp [State.turn, h]

theorem turn_posted_empty (h : s.pwq.items = []) : s.turn .posted = .idle := by
  simp [State.turn, h]

theorem turn_dtt_eq_ready_iff (n : Fin 8) :
    s.turn (.dtt n) = .ready ↔ (s.dtt.entry n).map Entry.phase = some (.waiting 0) := by
  cases h : s.dtt.entry n with
  | none => simp [turn_dtt_free h]
  | some e => simp [turn_dtt h, Phase.turn_eq_ready_iff]

theorem turn_dtt_eq_flying_iff (n : Fin 8) :
    s.turn (.dtt n) = .flying ↔ (s.dtt.entry n).map Entry.phase = some .issued := by
  cases h : s.dtt.entry n with
  | none => simp [turn_dtt_free h]
  | some e => simp [turn_dtt h, Phase.turn_eq_flying_iff]

theorem turn_posted_eq_ready_iff : s.turn .posted = .ready ↔ s.pwq.items.head?.map Item.cond = some .ready := by
  cases h : s.pwq.items with
  | nil => simp [turn_posted_empty h]
  | cons i tl => simp [turn_posted h, ItemCond.turn_eq_ready_iff]

theorem turn_posted_eq_flying_iff : s.turn .posted = .flying ↔ s.pwq.items.head?.map Item.cond = some .inFlight := by
  cases h : s.pwq.items with
  | nil => simp [turn_posted_empty h]
  | cons i tl => simp [turn_posted h, ItemCond.turn_eq_flying_iff]

end TurnOf

/-! ## The arbiter's lists (R87, R94) -/

/-- The ready list and the origins in flight hold each origin once, exactly as it stands. -/
structure Arbitrated (ready flight : List Origin) (turn : Origin → Turn) : Prop where
  readyNodup : ready.Nodup
  mem_ready : ∀ o, o ∈ ready ↔ turn o = .ready
  flightNodup : flight.Nodup
  mem_flight : ∀ o, o ∈ flight ↔ turn o = .flying

section Arbitrated

variable {ready flight : List Origin} {turn : Origin → Turn} {o : Origin}

/-- An idle origin joins the ready list. -/
theorem Arbitrated.join (h : Arbitrated ready flight turn) (hidle : turn o = .idle) :
    Arbitrated (ready ++ [o]) flight (Function.update turn o .ready) where
  readyNodup := by
    have hnew : o ∉ ready := by simp [h.mem_ready, hidle]
    exact List.nodup_append.2 ⟨h.readyNodup, List.nodup_singleton o, fun a ha b hb => by
      rw [List.mem_singleton.1 hb]
      exact fun hab => hnew (hab ▸ ha)⟩
  mem_ready p := by
    by_cases hp : p = o
    · simp [hp]
    · simp [hp, h.mem_ready]
  flightNodup := h.flightNodup
  mem_flight p := by
    by_cases hp : p = o
    · simp [hp, h.mem_flight, hidle]
    · simp [hp, h.mem_flight]

/-- The front of the ready list takes flight. -/
theorem Arbitrated.issue (h : Arbitrated (o :: ready) flight turn) :
    Arbitrated ready (flight ++ [o]) (Function.update turn o .flying) where
  readyNodup := (List.nodup_cons.1 h.readyNodup).2
  mem_ready p := by
    by_cases hp : p = o
    · simpa [hp] using (List.nodup_cons.1 h.readyNodup).1
    · simpa [hp] using h.mem_ready p
  flightNodup := by
    have hready : turn o = .ready := (h.mem_ready o).1 List.mem_cons_self
    have hnew : o ∉ flight := by simp [h.mem_flight, hready]
    exact List.nodup_append.2 ⟨h.flightNodup, List.nodup_singleton o, fun a ha b hb => by
      rw [List.mem_singleton.1 hb]
      exact fun hab => hnew (hab ▸ ha)⟩
  mem_flight p := by
    by_cases hp : p = o
    · simp [hp]
    · simpa [hp] using h.mem_flight p

/-- An origin leaves flight. -/
theorem Arbitrated.land (h : Arbitrated ready flight turn) (hflying : turn o = .flying) :
    Arbitrated ready (flight.filter fun p => decide (p ≠ o)) (Function.update turn o .idle) where
  readyNodup := h.readyNodup
  mem_ready p := by
    by_cases hp : p = o
    · simp [hp, h.mem_ready, hflying]
    · simp [hp, h.mem_ready]
  flightNodup := h.flightNodup.filter _
  mem_flight p := by
    by_cases hp : p = o
    · simp [hp]
    · simp [hp, h.mem_flight]

/-- Idle origins join the ready list together. -/
theorem Arbitrated.joinAll {l : List Origin} (h : Arbitrated ready flight turn) (hnodup : l.Nodup)
    (hidle : ∀ p ∈ l, turn p = .idle) :
    Arbitrated (ready ++ l) flight (fun p => if p ∈ l then .ready else turn p) where
  readyNodup := List.nodup_append.2 ⟨h.readyNodup, hnodup, fun a ha b hb hab => by
    have hready := (h.mem_ready a).1 ha
    rw [hab, hidle b hb] at hready
    exact Turn.noConfusion hready⟩
  mem_ready p := by
    by_cases hp : p ∈ l
    · simp [hp]
    · simp [hp, h.mem_ready]
  flightNodup := h.flightNodup
  mem_flight p := by
    by_cases hp : p ∈ l
    · simp [hp, h.mem_flight, hidle p hp]
    · simp [hp, h.mem_flight]

/-- Origins keep their places when where they stand does not change. -/
theorem Arbitrated.congr {turn' : Origin → Turn} (h : Arbitrated ready flight turn) (hsame : turn' = turn) :
    Arbitrated ready flight turn' :=
  hsame ▸ h

end Arbitrated

/-- The two invariants of the arbiter's lists as one. -/
theorem arbitrated_iff (s : State) :
    Arbitrated s.arbiter.ready (s.arbiter.inFlight.map InFlight.origin) s.turn ∧ s.arbiter.inFlight.length ≤ 4 ↔
      s.readyExact ∧ s.flightExact := by
  constructor
  · rintro ⟨⟨hready, hmemReady, hflight, hmemFlight⟩, hslots⟩
    exact ⟨⟨hready, fun n => (hmemReady _).trans (turn_dtt_eq_ready_iff n),
        (hmemReady _).trans turn_posted_eq_ready_iff⟩,
      hslots, hflight, fun n => (hmemFlight _).trans (turn_dtt_eq_flying_iff n),
        (hmemFlight _).trans turn_posted_eq_flying_iff⟩
  · rintro ⟨⟨hready, hreadyDtt, hreadyPosted⟩, hslots, hflight, hflightDtt, hflightPosted⟩
    refine ⟨⟨hready, fun o => ?_, hflight, fun o => ?_⟩, hslots⟩
    · cases o with
      | dtt n => exact (hreadyDtt n).trans (turn_dtt_eq_ready_iff n).symm
      | posted => exact hreadyPosted.trans turn_posted_eq_ready_iff.symm
    · cases o with
      | dtt n => exact (hflightDtt n).trans (turn_dtt_eq_flying_iff n).symm
      | posted => exact hflightPosted.trans turn_posted_eq_flying_iff.symm

/-! ## Deferred and posted work -/

/-- The part of the state that deferred and posted work speaks of: the level of RRST, the rack port, the bridge state, the
DTT's entries and order, the PWQ, the ready list and the in-flight set. -/
structure Work where
  rrst : Bool
  rack : RackPort
  bridge : BridgeState
  entries : Vector (Option Entry) 8
  order : List (Fin 8)
  items : List Item
  ready : List Origin
  inFlight : List InFlight

/-- The deferred and posted work of a state. -/
def State.work (s : State) : Work :=
  { rrst := s.lines.rrst, rack := s.rack, bridge := s.bridge.state, entries := s.dtt.entries, order := s.dtt.order
    items := s.pwq.items, ready := s.arbiter.ready, inFlight := s.arbiter.inFlight }

@[simp] theorem work_reply (a : Answer) (s : State) : (s.reply a).work = s.work := rfl
@[simp] theorem work_quiet (s : State) : s.quiet.work = s.work := rfl
@[simp] theorem work_raise (e : Event) (s : State) : (raise e s).work = s.work := rfl
@[simp] theorem work_bump (i : CounterId) (k : Nat) (s : State) : (bump i k s).work = s.work := rfl
@[simp] theorem work_setEntry (n : Fin 8) (e : Option Entry) (s : State) :
    (setEntry n e s).work = { s.work with entries := s.work.entries.set n.val e n.isLt } := rfl
@[simp] theorem work_setHead (h : Item) (s : State) :
    (setHead h s).work = { s.work with items := h :: s.work.items.tail } := rfl
@[simp] theorem work_removeRecord (o : Origin) (s : State) :
    (removeRecord o s).work = { s.work with inFlight := s.work.inFlight.filter fun r => r.origin ≠ o } := rfl

@[simp] theorem work_captureError (i : ErrorInfo) (s : State) : (captureError i s).work = s.work := by
  rw [captureError_frame]
  rfl

/-- What every step keeps of deferred and posted work, but that a finished drain has been noticed: the invariants of
`State.flowSound` and `State.gatesSound`, the arbiter's two lists as one. -/
structure State.steady (s : State) : Prop where
  order : s.orderExact
  keys : s.keysDistinct
  entries : ∀ n : Fin 8, ∀ e ∈ s.dtt.entry n, e.shaped ∧ e.resultFits ∧ e.aheadAtMost s.pwq.items.length
  depth : s.pwq.items.length ≤ Config.pwqDepth
  conditions : s.pwq.conditions
  items : ∀ i ∈ s.pwq.items, i.shaped
  arbitrated : Arbitrated s.arbiter.ready (s.arbiter.inFlight.map InFlight.origin) s.turn
  slots : s.arbiter.inFlight.length ≤ 4
  records : s.recordsMatch
  down : s.quietWhenDown
  off : s.emptyWhenOff
  self : s.neverToSelf
  rrst : s.downUnderRrst

/-- What every step keeps of deferred and posted work. -/
structure State.working (s : State) : Prop where
  steady : s.steady
  draining : s.drainingBusy

/-- A sound state is one whose setup, event unit and waiting commands are sound, and whose work is. -/
theorem sound_iff (s : State) :
    s.sound ↔ s.legal ∧ s.countsBounded ∧ s.imq.consistent ∧ s.working ∧ s.heldInReset ∧
      ∀ c ∈ s.pending, c.isWellFormed = true := by
  constructor
  · rintro ⟨hset, hwin, hcounts, himq, hflow, hgates, hqueue⟩
    obtain ⟨harb, hslots⟩ := (arbitrated_iff s).2 ⟨hflow.ready, hflow.flight⟩
    exact ⟨⟨hset, hwin⟩, hcounts, himq,
      ⟨⟨hflow.order, hflow.keys, hflow.entries, hflow.depth, hflow.conditions, hflow.items, harb, hslots,
        hflow.records, hgates.down, hgates.off, hgates.self, hgates.rrst⟩, hgates.draining⟩, hgates.crst, hqueue⟩
  · rintro ⟨⟨hset, hwin⟩, hcounts, himq, ⟨hs, hdraining⟩, hcrst, hqueue⟩
    obtain ⟨hready, hflight⟩ := (arbitrated_iff s).1 ⟨hs.arbitrated, hs.slots⟩
    exact ⟨hset, hwin, hcounts, himq,
      ⟨hs.order, hs.keys, hs.entries, hs.depth, hs.conditions, hs.items, hready, hflight, hs.records⟩,
      ⟨hs.down, hs.off, hdraining, hs.self, hs.rrst, hcrst⟩, hqueue⟩

/-! ## States with the same work -/

section SameWork

variable {s t : State}

theorem entry_of_entries (h : t.dtt.entries = s.dtt.entries) : t.dtt.entry = s.dtt.entry := by
  funext n
  rw [Dtt.entry, Dtt.entry, h]

theorem turn_congr (hentry : t.dtt.entry = s.dtt.entry) (hitems : t.pwq.items = s.pwq.items) : t.turn = s.turn := by
  funext o
  cases o with
  | dtt n => rw [State.turn, State.turn, hentry]
  | posted => rw [State.turn, State.turn, hitems]

theorem originRequest_congr (hentry : t.dtt.entry = s.dtt.entry) (hitems : t.pwq.items = s.pwq.items) (o : Origin) :
    originRequest o t = originRequest o s := by
  cases o with
  | dtt n => rw [originRequest, originRequest, hentry]
  | posted => rw [originRequest, originRequest, hitems]

theorem drainCondition_congr (hentry : t.dtt.entry = s.dtt.entry) (hitems : t.pwq.items = s.pwq.items) :
    t.drainCondition = s.drainCondition :=
  Bool.eq_iff_iff.2 (by rw [drainCondition_iff, drainCondition_iff, hentry, hitems])

/-- The invariants speak of the work alone. -/
theorem State.steady.of_work (hs : s.steady) (h : t.work = s.work) : t.steady := by
  rw [State.work, State.work, Work.mk.injEq] at h
  obtain ⟨hrrst, hrack, hbridge, hentries, horder, hitems, hready, hflight⟩ := h
  have hentry := entry_of_entries hentries
  have hpwq : t.pwq = s.pwq := congrArg Pwq.mk hitems
  have hdrain := drainCondition_congr hentry hitems
  exact {
    order := by rw [State.orderExact, horder, hentry]; exact hs.order
    keys := by rw [State.keysDistinct, hentry]; exact hs.keys
    entries := by rw [hentry, hitems]; exact hs.entries
    depth := by rw [hitems]; exact hs.depth
    conditions := by rw [hpwq]; exact hs.conditions
    items := by rw [hitems]; exact hs.items
    arbitrated := by rw [hready, hflight, turn_congr hentry hitems]; exact hs.arbitrated
    slots := by rw [hflight]; exact hs.slots
    records := by
      simp only [State.recordsMatch, hflight, originRequest_congr hentry hitems]
      exact hs.records
    down := by rw [State.quietWhenDown, hrack, hready, hflight, hitems, hentry]; exact hs.down
    off := by rw [State.emptyWhenOff, hbridge, hdrain]; exact hs.off
    self := by rw [State.neverToSelf, hrack, hitems, hentry]; exact hs.self
    rrst := by rw [State.downUnderRrst, hrack, hrrst]; exact hs.rrst }

theorem State.working.of_work (hs : s.working) (h : t.work = s.work) : t.working where
  steady := hs.steady.of_work h
  draining := by
    rw [State.work, State.work, Work.mk.injEq] at h
    obtain ⟨-, -, hbridge, hentries, -, hitems, -, -⟩ := h
    rw [State.drainingBusy, hbridge, drainCondition_congr (entry_of_entries hentries) hitems]
    exact hs.draining

end SameWork

/-! ## The notice -/

/-- A notice sees to a drain that has nothing left to wait for. -/
theorem working_notice {s : State} (hs : s.steady) : (notice s).working := by
  obtain ⟨-, hempty, heq⟩ | ⟨hno, heq⟩ := notice_cases s
  · rw [heq]
    exact ⟨⟨hs.order, hs.keys, hs.entries, hs.depth, hs.conditions, hs.items, hs.arbitrated, hs.slots, hs.records,
      hs.down, fun _ => hempty, hs.self, hs.rrst⟩, fun hdraining => absurd hdraining (by simp)⟩
  · rw [heq]
    exact ⟨hs, fun hdraining => by simpa [hdraining] using hno⟩

/-- With something inside there is no drain to finish. -/
theorem working_of_entry {s : State} {n : Fin 8} {e : Entry} (hs : s.steady) (hn : s.dtt.entry n = some e) :
    s.working := by
  refine ⟨hs, fun _ => Bool.eq_false_iff.2 fun hempty => ?_⟩
  rw [((drainCondition_iff s).1 hempty).1 n] at hn
  contradiction

theorem working_of_item {s : State} (hs : s.steady) (hitems : s.pwq.items ≠ []) : s.working :=
  ⟨hs, fun _ => Bool.eq_false_iff.2 fun hempty => hitems ((drainCondition_iff s).1 hempty).2⟩

theorem working_of_running {s : State} (hs : s.steady) (hrun : s.bridge.state = .running) : s.working :=
  ⟨hs, fun hdraining => absurd (hrun.symm.trans hdraining) (by decide)⟩

end Sys2Proof.Machine
end

section
/-! SUPPORT. Deferred and posted work under each operation: the work stays sound. -/

namespace Sys2Proof.Machine

/-! ## Entries at work -/

/-- An entry that differs from another in attempts and phase alone. -/
abbrev Entry.reworks (e' e : Entry) : Prop :=
  e' = { e with attempts := e'.attempts, phase := e'.phase }

/-- A state whose entries are those of another, each at most with other attempts and another phase. -/
structure State.reworks (t s : State) : Prop where
  order : t.dtt.order = s.dtt.order
  entries : ∀ n : Fin 8, (s.dtt.entry n = none ∧ t.dtt.entry n = none) ∨
    ∃ e e', s.dtt.entry n = some e ∧ t.dtt.entry n = some e' ∧ e'.reworks e

section Reworks

variable {s t : State}

theorem reworks_of_map {g : Entry → Entry} (horder : t.dtt.order = s.dtt.order)
    (hentry : ∀ n : Fin 8, t.dtt.entry n = (s.dtt.entry n).map g) (hg : ∀ e, (g e).reworks e) : t.reworks s where
  order := horder
  entries n := by
    cases hn : s.dtt.entry n with
    | none => exact .inl ⟨rfl, by rw [hentry, hn]; rfl⟩
    | some e => exact .inr ⟨e, g e, rfl, by rw [hentry, hn]; rfl, hg e⟩

theorem reworks_of_set {m : Fin 8} {e e' : Entry} (horder : t.dtt.order = s.dtt.order) (hm : s.dtt.entry m = some e)
    (hentry : ∀ n : Fin 8, t.dtt.entry n = if m = n then some e' else s.dtt.entry n) (hsame : e'.reworks e) :
    t.reworks s where
  order := horder
  entries n := by
    by_cases hn : m = n
    · subst hn
      exact .inr ⟨e, e', hm, by rw [hentry, if_pos rfl], hsame⟩
    · cases hs : s.dtt.entry n with
      | none => exact .inl ⟨rfl, by rw [hentry, if_neg hn, hs]⟩
      | some f => exact .inr ⟨f, f, rfl, by rw [hentry, if_neg hn, hs], rfl⟩

variable (h : t.reworks s)
include h

theorem State.reworks.of_some {n : Fin 8} {e' : Entry} (hn : t.dtt.entry n = some e') :
    ∃ e, s.dtt.entry n = some e ∧ e'.reworks e := by
  obtain ⟨-, hnone⟩ | ⟨e, f, he, hf, hsame⟩ := h.entries n
  · exact absurd (hnone.symm.trans hn) (Option.some_ne_none e').symm
  · obtain rfl := Option.some.inj (hf.symm.trans hn)
    exact ⟨e, he, hsame⟩

theorem State.reworks.isSome (n : Fin 8) : (t.dtt.entry n).isSome = (s.dtt.entry n).isSome := by
  obtain ⟨hs, ht⟩ | ⟨e, e', hs, ht, -⟩ := h.entries n <;> rw [hs, ht]
  rfl

theorem State.reworks.orderExact (hs : s.orderExact) : t.orderExact := by
  obtain ⟨hnodup, hmem⟩ := hs
  rw [State.orderExact, h.order]
  exact ⟨hnodup, fun n => by rw [h.isSome]; exact hmem n⟩

theorem State.reworks.keysDistinct (hs : s.keysDistinct) : t.keysDistinct := by
  intro m n hne e' he' f' hf' hsame
  obtain ⟨e, he, hee⟩ := h.of_some he'
  obtain ⟨f, hf, hff⟩ := h.of_some hf'
  rw [hee, hff] at hsame
  exact hs m n hne e he f hf hsame

theorem State.reworks.drainCondition (hitems : t.pwq.items = [] ↔ s.pwq.items = []) :
    t.drainCondition = s.drainCondition := by
  have hfree (n : Fin 8) : t.dtt.entry n = none ↔ s.dtt.entry n = none := by
    rw [← Option.isNone_iff_eq_none, ← Option.isNone_iff_eq_none, ← Option.not_isSome, ← Option.not_isSome, h.isSome]
  refine Bool.eq_iff_iff.2 ?_
  rw [drainCondition_iff, drainCondition_iff, hitems]
  exact and_congr (forall_congr' hfree) Iff.rfl

/-- A reworked entry asks for the same kind and size of cell. -/
theorem State.reworks.request {n : Fin 8} {c : Request} (hc : originRequest (.dtt n) t = some c) :
    ∃ d, originRequest (.dtt n) s = some d ∧ d.kind = c.kind ∧ d.count = c.count := by
  obtain ⟨e', he', rfl⟩ := Option.map_eq_some_iff.1 hc
  obtain ⟨e, he, hsame⟩ := h.of_some he'
  exact ⟨entryRequest e, originRequest_dtt he, by rw [hsame]; rfl, by rw [hsame]; rfl⟩

end Reworks

theorem isComplete_of_reworks {e e' : Entry} (h : e'.phase = e.phase) : e'.isComplete = e.isComplete := by
  rw [Entry.isComplete, Entry.isComplete, h]

/-- An entry of another phase than COMPLETE has no result. -/
theorem resultFits_of_not_complete {e : Entry} (h : e.phase.readData = none) : e.resultFits := by
  intro data hdata
  rw [h] at hdata
  contradiction

/-! ## One entry at work -/

section OneEntry

variable {s t : State} {m : Fin 8} {e e' : Entry} {ready : List Origin} {flight : List InFlight}

/-- An entry that is not COMPLETE moves on: it stays one, the arbiter's lists follow where it stands, and a new record is that
of its own cell. -/
theorem working_moveEntry (hs : s.steady) (hm : s.dtt.entry m = some e) (hpending : e.isComplete = false)
    (hsame : e'.reworks e) (hshaped : e'.shaped) (hfits : e'.resultFits) (hahead : e'.phase.writesAhead = 0)
    (hwork : t.work = { s.work with
      entries := s.dtt.entries.set m.val (some e') m.isLt, ready := ready, inFlight := flight })
    (harb : Arbitrated ready (flight.map InFlight.origin) (Function.update s.turn (.dtt m) e'.phase.turn))
    (hslots : flight.length ≤ 4)
    (hrecords : ∀ r ∈ flight, r ∈ s.arbiter.inFlight ∨
      (r.origin = .dtt m ∧ r.kind = e.kind.cellKind ∧ r.size = e.size)) : t.working := by
  simp only [State.work, Work.mk.injEq] at hwork
  obtain ⟨hrrst, hrack, hbridge, hentries, horder, hitems, rfl, rfl⟩ := hwork
  have hentry (n : Fin 8) : t.dtt.entry n = if m = n then some e' else s.dtt.entry n := by
    rw [← entry_setEntry, Dtt.entry, hentries]
    rfl
  have htm : t.dtt.entry m = some e' := by rw [hentry, if_pos rfl]
  have hreworks : t.reworks s := reworks_of_set horder hm hentry hsame
  have hpwq : t.pwq = s.pwq := congrArg Pwq.mk hitems
  have hup : s.rack.state ≠ .down := fun hdown => by
    obtain ⟨-, -, -, hall⟩ := hs.down hdown
    rw [hall m e hm] at hpending
    contradiction
  have hturn : t.turn = Function.update s.turn (.dtt m) e'.phase.turn := by
    funext o
    cases o with
    | dtt n =>
      by_cases hn : n = m
      · subst hn
        rw [Function.update_self, turn_dtt htm]
      · rw [Function.update_of_ne (by simpa using hn), State.turn, State.turn, hentry, if_neg (Ne.symm hn)]
    | posted =>
      rw [Function.update_of_ne (by simp), State.turn, State.turn, hitems]
  refine working_of_entry (n := m) (e := e') ?_ htm
  exact {
    order := hreworks.orderExact hs.order
    keys := hreworks.keysDistinct hs.keys
    entries := fun n f hf => by
      rw [hentry] at hf
      split at hf
      next => exact Option.some.inj hf ▸ ⟨hshaped, hfits, hahead.trans_le (Nat.zero_le _)⟩
      next => exact hitems ▸ hs.entries n f hf
    depth := hitems ▸ hs.depth
    conditions := hpwq ▸ hs.conditions
    items := hitems ▸ hs.items
    arbitrated := harb.congr hturn
    slots := hslots
    records := fun r hr c hc => by
      cases horigin : r.origin with
      | posted =>
        obtain hold | ⟨hnew, -⟩ := hrecords r hr
        · refine hs.records r hold c ?_
          rw [horigin] at hc ⊢
          rwa [originRequest, hitems] at hc
        · exact absurd (horigin.symm.trans hnew) (by simp)
      | dtt n =>
        rw [horigin] at hc
        obtain ⟨d, hd, hkind, hcount⟩ := hreworks.request hc
        obtain hold | ⟨hnew, hnewKind, hnewSize⟩ := hrecords r hr
        · rw [← hkind, ← hcount]
          exact hs.records r hold d (horigin ▸ hd)
        · obtain rfl : n = m := by simpa using horigin.symm.trans hnew
          rw [originRequest_dtt hm] at hd
          rw [← hkind, ← hcount, ← Option.some.inj hd, hnewKind, hnewSize]
          exact ⟨rfl, rfl⟩
    down := fun hdown => absurd (hrack ▸ hdown) hup
    off := fun hoff => by
      rw [hreworks.drainCondition (by rw [hitems])]
      exact hs.off (hbridge ▸ hoff)
    self := by
      refine ⟨fun n f hf hopen => ?_, ?_⟩
      · rw [hrack]
        rw [hentry] at hf
        split at hf
        next =>
          obtain rfl := Option.some.inj hf
          rw [hsame]
          exact hs.self.1 m e hm hpending
        next => exact hs.self.1 n f hf hopen
      · rw [hitems, hrack]
        exact hs.self.2
    rrst := fun hline => hrack ▸ hs.rrst (hrrst ▸ hline) }

end OneEntry

/-! ## The head at work -/

/-- The request of an item is a matter of its kind, slot and data. -/
theorem itemRequest_congr {i j : Item} (hkind : j.kind = i.kind) (hslot : j.slot = i.slot) (hdata : j.data = i.data) :
    itemRequest j = itemRequest i := by
  rw [itemRequest, itemRequest, hkind, hslot, hdata]

section Head

variable {s t : State} {h h' : Item} {tl : List Item} {ready : List Origin} {flight : List InFlight}

/-- The head moves on: it stays the head, the arbiter's lists follow where it stands, and a new record is that of its own
cell. -/
theorem working_moveHead (hs : s.steady) (hitems : s.pwq.items = h :: tl)
    (hsame : h' = { h with attempts := h'.attempts, cond := h'.cond }) (hshaped : h'.shaped) (hcond : h'.cond ≠ .queued)
    (hwork : t.work = { s.work with items := h' :: tl, ready := ready, inFlight := flight })
    (harb : Arbitrated ready (flight.map InFlight.origin) (Function.update s.turn .posted h'.cond.turn))
    (hslots : flight.length ≤ 4)
    (hrecords : ∀ r ∈ flight, r ∈ s.arbiter.inFlight ∨
      (r.origin = .posted ∧ r.kind = (itemRequest h).kind ∧ r.size = (itemRequest h).count)) : t.working := by
  simp only [State.work, Work.mk.injEq] at hwork
  obtain ⟨hrrst, hrack, hbridge, hentries, horder, htitems, rfl, rfl⟩ := hwork
  have hentry := entry_of_entries hentries
  have hlength : t.pwq.items.length = s.pwq.items.length := by rw [htitems, hitems]; rfl
  have hslot : h'.slot = h.slot := by rw [hsame]
  have hrequest : itemRequest h' = itemRequest h :=
    itemRequest_congr (by rw [hsame]) hslot (by rw [hsame])
  have hup : s.rack.state ≠ .down := fun hdown => by
    obtain ⟨-, -, hempty, -⟩ := hs.down hdown
    exact List.cons_ne_nil h tl (hitems.symm.trans hempty)
  have hturn : t.turn = Function.update s.turn .posted h'.cond.turn := by
    funext o
    cases o with
    | dtt n => rw [Function.update_of_ne (by simp), State.turn, State.turn, hentry]
    | posted => rw [Function.update_self, turn_posted htitems]
  have hsteady : t.steady := {
    order := by rw [State.orderExact, horder, hentry]; exact hs.order
    keys := by rw [State.keysDistinct, hentry]; exact hs.keys
    entries := by rw [hentry, hlength]; exact hs.entries
    depth := hlength ▸ hs.depth
    conditions := by
      obtain ⟨-, htail⟩ := hs.conditions
      rw [hitems] at htail
      rw [Pwq.conditions, htitems]
      exact ⟨fun i hi => Option.some.inj hi ▸ hcond, htail⟩
    items := by
      rw [htitems]
      exact List.forall_mem_cons.2 ⟨hshaped, (List.forall_mem_cons.1 (hitems ▸ hs.items)).2⟩
    arbitrated := harb.congr hturn
    slots := hslots
    records := fun r hr c hc => by
      cases horigin : r.origin with
      | dtt n =>
        obtain hold | ⟨hnew, -⟩ := hrecords r hr
        · refine hs.records r hold c ?_
          rw [horigin] at hc ⊢
          rwa [originRequest, hentry] at hc
        · exact absurd (horigin.symm.trans hnew) (by simp)
      | posted =>
        rw [horigin, originRequest_posted htitems, hrequest] at hc
        obtain rfl := Option.some.inj hc
        obtain hold | ⟨-, hkind, hsize⟩ := hrecords r hr
        · exact hs.records r hold _ (by rw [horigin]; exact originRequest_posted hitems)
        · exact ⟨hkind, hsize⟩
    down := fun hdown => absurd (hrack ▸ hdown) hup
    off := fun hoff => by
      have hempty := hs.off (hbridge ▸ hoff)
      exact absurd (hitems.symm.trans ((drainCondition_iff s).1 hempty).2) (List.cons_ne_nil h tl)
    self := by
      obtain ⟨hself, hselfItems⟩ := hs.self
      rw [hitems, List.forall_mem_cons] at hselfItems
      rw [State.neverToSelf, hentry, hrack, htitems, List.forall_mem_cons, hslot]
      exact ⟨hself, hselfItems⟩
    rrst := fun hline => hrack ▸ hs.rrst (hrrst ▸ hline) }
  exact working_of_item hsteady (by rw [htitems]; exact List.cons_ne_nil h' tl)

end Head

/-! ## Outcomes (R98) -/

/-- The origins in flight after a record is removed. -/
theorem origins_removeRecord (o : Origin) (l : List InFlight) :
    (l.filter fun r => r.origin ≠ o).map InFlight.origin = (l.map InFlight.origin).filter fun p => decide (p ≠ o) := by
  rw [List.filter_map]
  rfl

section Landed

variable {s : State} {o : Origin}

/-- The arbiter's lists after the record of an origin in flight is removed. -/
theorem arbitrated_removeRecord (hs : s.steady) (hflying : s.turn o = .flying) :
    Arbitrated s.arbiter.ready ((s.arbiter.inFlight.filter fun r => r.origin ≠ o).map InFlight.origin)
      (Function.update s.turn o .idle) := by
  rw [origins_removeRecord]
  exact hs.arbitrated.land hflying

theorem slots_removeRecord (hs : s.steady) : (s.arbiter.inFlight.filter fun r => r.origin ≠ o).length ≤ 4 :=
  (List.length_filter_le _ _).trans hs.slots

end Landed

section EntryOutcome

variable {s t : State} {n : Fin 8} {e : Entry} {p : Phase} (hs : s.steady) (hn : s.dtt.entry n = some e)
  (hissued : e.phase = .issued)
include hs hn hissued

/-- An entry in flight lands: its record is gone, and it is neither ready nor in flight. -/
theorem working_landEntry (hturn : p.turn = .idle) (hahead : p.writesAhead = 0)
    (hattempts : attemptsAllowed e.budget e.attempts p.sendable)
    (hfits : ∀ data ∈ p.readData, data.length = if e.kind = .cwrite then 0 else e.size)
    (hwork : t.work = (setEntry n (some { e with phase := p }) (removeRecord (.dtt n) s)).work) : t.working := by
  obtain ⟨⟨hsize, haligned, hexchange, hdata, hstep, -⟩, -, -⟩ := hs.entries n e hn
  have hflying : s.turn (.dtt n) = .flying := by rw [turn_dtt hn, hissued]; rfl
  refine working_moveEntry (e' := { e with phase := p }) hs hn (by rw [Entry.isComplete, hissued]) rfl
    ⟨hsize, haligned, hexchange, hdata, hstep, hattempts⟩ hfits hahead hwork ?_ (slots_removeRecord hs)
    fun r hr => .inl (List.mem_of_mem_filter hr)
  rw [hturn]
  exact arbitrated_removeRecord hs hflying

/-- What the attempts of an entry in flight allow. -/
theorem attempts_of_issued : attemptsAllowed e.budget e.attempts false := by
  obtain ⟨⟨-, -, -, -, -, hattempts⟩, -, -⟩ := hs.entries n e hn
  rwa [hissued] at hattempts

theorem working_completeEntry {r : TxnResult} {discard : Option Nat}
    (hfits : ∀ data, r = .ok data → data.length = if e.kind = .cwrite then 0 else e.size)
    (hwork : t.work =
      (setEntry n (some { e with phase := .complete r discard }) (removeRecord (.dtt n) s)).work) : t.working := by
  refine working_landEntry hs hn hissued (p := .complete r discard) rfl rfl (attempts_of_issued hs hn hissued)
    (fun data hdata => ?_) hwork
  cases r with
  | ok d => exact hfits data (by rw [← Option.some.inj hdata])
  | _ => exact absurd hdata (by simp [Phase.readData])

theorem working_failEntry {r : TxnResult} (k : ErrorKind) {u : State} (hfail : ∀ data, r ≠ .ok data)
    (hu : u.work = (removeRecord (.dtt n) s).work) : (failEntry n e r k u).working := by
  refine working_completeEntry hs hn hissued (r := r) (discard := discardTicks u.dtt.discardTime)
    (fun data hdata => absurd hdata (hfail data)) ?_
  rw [failEntry, work_captureError, complete, work_setEntry, work_setEntry, hu]
  rfl

/-- An outcome for an entry in flight, its record removed: an ACCEPT brings as many bytes as the entry asked for. -/
theorem working_entryOutcome {c : CellOutcome}
    (haccept : ∀ data, c = .accept data → e.kind ≠ .cwrite → data.length = e.size) :
    (handOutcome (.dtt n) c (removeRecord (.dtt n) s)).working := by
  have hn' : (removeRecord (.dtt n) s).dtt.entry n = some e := hn
  cases c with
  | accept data =>
    rw [handOutcome_dtt_accept hn' hissued]
    refine working_completeEntry hs hn hissued (fun d hd => ?_) rfl
    rw [← TxnResult.ok.inj hd, readData_eq]
    split
    · rfl
    · exact haccept data rfl ‹_›
  | busy =>
    rw [handOutcome_dtt_busy hn' hissued]
    obtain ⟨hmax, -⟩ := attempts_of_issued hs hn hissued
    by_cases hretry : mayRetry e.budget e.attempts = true
    · rw [busyEntry_of_mayRetry _ hretry]
      exact working_landEntry hs hn hissued (p := .deferred _) rfl rfl ⟨hmax, (mayRetry_iff _ _).1 hretry⟩
        (fun _ hdata => absurd hdata (by simp [Phase.readData])) rfl
    · rw [busyEntry_of_exhausted _ hretry]
      exact working_failEntry hs hn hissued _ (fun _ => TxnResult.noConfusion) rfl
  | reject =>
    rw [handOutcome_dtt_reject hn' hissued]
    exact working_failEntry hs hn hissued _ (fun _ => TxnResult.noConfusion) rfl
  | noAnswer =>
    rw [handOutcome_dtt_noAnswer hn' hissued]
    exact working_failEntry hs hn hissued _ (fun _ => TxnResult.noConfusion) rfl
  | malformed =>
    rw [handOutcome_dtt_malformed hn' hissued]
    exact working_failEntry hs hn hissued _ (fun _ => TxnResult.noConfusion) rfl

end EntryOutcome

end Sys2Proof.Machine
end

section
/-! SUPPORT. Deferred and posted work under a retirement, and under the outcomes of the head. -/

namespace Sys2Proof.Machine

/-! ## What a retirement makes of an entry and of the queue -/

theorem oneLess_reworks (e : Entry) : e.oneLess.reworks e := by
  unfold Entry.oneLess
  split <;> rfl

theorem oneLess_isComplete (e : Entry) : e.oneLess.isComplete = e.isComplete := by
  unfold Entry.oneLess
  split
  next k hphase => simp [Entry.isComplete, hphase]
  next => rfl

theorem oneLess_turn (e : Entry) :
    e.oneLess.phase.turn = if e.phase = .waiting 1 then .ready else e.phase.turn := by
  unfold Entry.oneLess
  split
  next k hphase =>
    match k with
    | 0 | 1 => simp [hphase, Phase.turn]
    | k + 2 => simp [hphase, Phase.turn]
  next hother => rw [if_neg (hother 1)]

/-- One retirement keeps an entry sound, with one item less in the queue. -/
theorem oneLess_sound {e : Entry} {k : Nat} (h : e.shaped ∧ e.resultFits ∧ e.aheadAtMost (k + 1)) :
    e.oneLess.shaped ∧ e.oneLess.resultFits ∧ e.oneLess.aheadAtMost k := by
  obtain ⟨⟨hsize, haligned, hexchange, hdata, hstep, hattempts⟩, hfits, hahead⟩ := h
  unfold Entry.oneLess
  split
  next w hphase =>
    rw [hphase] at hattempts
    refine ⟨⟨hsize, haligned, hexchange, hdata, hstep, hattempts⟩,
      resultFits_of_not_complete rfl, ?_⟩
    rw [Entry.aheadAtMost, hphase] at hahead
    exact Nat.sub_le_of_le_add hahead
  next hother =>
    have hzero : e.phase.writesAhead = 0 := by
      unfold Phase.writesAhead
      split
      next w hphase => exact absurd hphase (hother w)
      next => rfl
    exact ⟨⟨hsize, haligned, hexchange, hdata, hstep, hattempts⟩, hfits, hzero.trans_le (Nat.zero_le k)⟩

theorem promoted_length (tl : List Item) : (promoted tl).length = tl.length := by
  cases tl <;> rfl

/-- The queue behind a retired head keeps the conditions of R33. -/
theorem promoted_conditions {tl : List Item} (h : ∀ i ∈ tl, i.cond = .queued ∧ i.attempts = 0) :
    Pwq.conditions { items := promoted tl } := by
  cases tl with
  | nil => exact ⟨by simp [promoted], by simp [promoted]⟩
  | cons i rest =>
    exact ⟨fun j hj => by rw [← Option.some.inj hj]; simp, fun j hj => h j (List.mem_cons_of_mem i hj)⟩

/-- An item of the promoted queue is one behind the head, at most with another condition. -/
theorem mem_promoted {tl : List Item} (h : ∀ i ∈ tl, i.cond = .queued) {j : Item} (hj : j ∈ promoted tl) :
    ∃ i ∈ tl, j.slot = i.slot ∧ (i.shaped → j.shaped) := by
  cases tl with
  | nil => exact absurd hj (by simp [promoted])
  | cons i rest =>
    obtain rfl | hrest := List.mem_cons.1 hj
    · refine ⟨i, List.mem_cons_self, rfl, fun ⟨hwrite, hmessage, hstep, hattempts⟩ => ?_⟩
      rw [h i List.mem_cons_self] at hattempts
      exact ⟨hwrite, hmessage, hstep, hattempts⟩
    · exact ⟨j, List.mem_cons_of_mem i hrest, rfl, id⟩

/-- The origins that a retirement releases: the entries that waited for it alone. -/
abbrev State.released (s : State) : List Origin :=
  (s.dtt.order.filter s.waitsForOne).map .dtt

section Released

variable {s : State}

theorem waitsForOne_congr {t : State} (h : t.dtt.entry = s.dtt.entry) : t.waitsForOne = s.waitsForOne := by
  funext n
  rw [State.waitsForOne, State.waitsForOne, h]

theorem posted_not_mem_released : Origin.posted ∉ s.released := by
  simp

theorem nodup_released (hs : s.orderExact) : s.released.Nodup :=
  (hs.1.filter _).map fun _ _ h => Origin.dtt.inj h

theorem dtt_mem_released_iff (hs : s.orderExact) (n : Fin 8) :
    Origin.dtt n ∈ s.released ↔ (s.dtt.entry n).map Entry.phase = some (.waiting 1) := by
  rw [← waitsForOne_iff]
  have hlisted : s.waitsForOne n = true → n ∈ s.dtt.order := fun hwaits => (hs.2 n).2 <| by
    obtain ⟨e, he, -⟩ := Option.map_eq_some_iff.1 ((waitsForOne_iff s n).1 hwaits)
    rw [he]
    rfl
  simpa using hlisted

theorem idle_of_mem_released (hs : s.orderExact) {o : Origin} (ho : o ∈ s.released) : s.turn o = .idle := by
  cases o with
  | posted => exact absurd ho posted_not_mem_released
  | dtt n =>
    obtain ⟨e, he, hphase⟩ := Option.map_eq_some_iff.1 ((dtt_mem_released_iff hs n).1 ho)
    rw [turn_dtt he, hphase]
    rfl

end Released

/-! ## A retirement -/

section Retirement

variable {s t u : State} {h : Item} {tl : List Item} (hs : s.steady) (hitems : s.pwq.items = h :: tl)
  (hflight : h.cond = .inFlight)
include hs hitems hflight

/-- The arbiter's lists after a retirement: the head's record is gone, the waiters have joined, and P with a new head. -/
theorem arbitrated_retired (hentry : ∀ n : Fin 8, t.dtt.entry n = (s.dtt.entry n).map Entry.oneLess)
    (htitems : t.pwq.items = promoted tl) :
    Arbitrated (s.arbiter.ready ++ (s.released ++ promotedOrigins tl))
      ((s.arbiter.inFlight.filter fun r => r.origin ≠ .posted).map InFlight.origin) t.turn := by
  have hflying : s.turn .posted = .flying := by rw [turn_posted hitems, hflight]; rfl
  have hidle (p : Origin) (hp : p ∈ s.released) : Function.update s.turn .posted .idle p = .idle := by
    have hne : p ≠ .posted := fun heq => posted_not_mem_released (heq ▸ hp)
    rw [Function.update_of_ne hne, idle_of_mem_released hs.order hp]
  have hjoined := (arbitrated_removeRecord hs hflying).joinAll (nodup_released hs.order) hidle
  have hdtt (n : Fin 8) : t.turn (.dtt n) = if Origin.dtt n ∈ s.released then .ready else s.turn (.dtt n) := by
    simp only [dtt_mem_released_iff hs.order]
    cases hn : s.dtt.entry n with
    | none => simp [turn_dtt_free hn, turn_dtt_free (s := t) (n := n) (by rw [hentry, hn]; rfl)]
    | some e =>
      rw [turn_dtt (s := t) (e := e.oneLess) (by rw [hentry, hn]; rfl), turn_dtt hn, oneLess_turn]
      simp
  rw [← List.append_assoc]
  cases tl with
  | nil =>
    rw [promotedOrigins, if_pos rfl, List.append_nil]
    refine hjoined.congr (funext fun o => ?_)
    cases o with
    | dtt n => rw [hdtt, Function.update_of_ne (by simp)]
    | posted => rw [turn_posted_empty htitems, if_neg posted_not_mem_released, Function.update_self]
  | cons i rest =>
    rw [promotedOrigins, if_neg (List.cons_ne_nil i rest)]
    have hposted : (if Origin.posted ∈ s.released then .ready
        else Function.update s.turn .posted .idle .posted : Turn) = .idle := by
      rw [if_neg posted_not_mem_released, Function.update_self]
    refine (hjoined.join hposted).congr (funext fun o => ?_)
    cases o with
    | dtt n => rw [hdtt, Function.update_of_ne (by simp), Function.update_of_ne (by simp)]
    | posted => rw [turn_posted htitems, Function.update_self]; rfl

/-- The retirement of a head in flight, its record removed, before the notice. -/
theorem steady_retired (hu : u.work = (removeRecord .posted s).work) : (retired u).steady := by
  rw [work_removeRecord] at hu
  simp only [State.work, Work.mk.injEq] at hu
  obtain ⟨hrrst, hrack, hbridge, hentries, horder, huitems, hready, hinFlight⟩ := hu
  have huentry := entry_of_entries hentries
  have hu' : u.pwq.items = h :: tl := huitems.trans hitems
  have heq := retired_eq hu'
  have hentry (n : Fin 8) : (retired u).dtt.entry n = (s.dtt.entry n).map Entry.oneLess := by
    rw [entry_retired hu', huentry]
  have htitems : (retired u).pwq.items = promoted tl := retired_items hu'
  have htready : (retired u).arbiter.ready = s.arbiter.ready ++ (s.released ++ promotedOrigins tl) := by
    rw [heq, ← hready, State.released, ← waitsForOne_congr huentry, ← horder]
  have htflight : (retired u).arbiter.inFlight = s.arbiter.inFlight.filter fun r => r.origin ≠ .posted := by
    rw [heq, ← hinFlight]
  have htrack : (retired u).rack = s.rack := by rw [heq, ← hrack]
  have hreworks : (retired u).reworks s :=
    reworks_of_map (by rw [heq, ← horder]) hentry oneLess_reworks
  have hqueued : ∀ i ∈ tl, i.cond = .queued ∧ i.attempts = 0 := by
    obtain ⟨-, htail⟩ := hs.conditions
    rwa [hitems] at htail
  have hup : s.rack.state ≠ .down := fun hdown => by
    obtain ⟨-, -, hempty, -⟩ := hs.down hdown
    exact List.cons_ne_nil h tl (hitems.symm.trans hempty)
  have hbehind {i : Item} (hi : i ∈ promoted tl) :
      ∃ j ∈ s.pwq.items, i.slot = j.slot ∧ (j.shaped → i.shaped) := by
    obtain ⟨j, hj, hslot, hshaped⟩ := mem_promoted (fun i hi => (hqueued i hi).1) hi
    exact ⟨j, hitems ▸ List.mem_cons_of_mem h hj, hslot, hshaped⟩
  exact {
    order := hreworks.orderExact hs.order
    keys := hreworks.keysDistinct hs.keys
    entries := fun n f hf => by
      rw [hentry] at hf
      obtain ⟨e, he, rfl⟩ := Option.map_eq_some_iff.1 hf
      have hsound := hs.entries n e he
      rw [hitems] at hsound
      rw [htitems, promoted_length]
      exact oneLess_sound hsound
    depth := by
      have hdepth := hs.depth
      rw [hitems] at hdepth
      rw [htitems, promoted_length]
      exact (Nat.le_succ _).trans hdepth
    conditions := by
      rw [show (retired u).pwq = { items := promoted tl } from congrArg Pwq.mk htitems]
      exact promoted_conditions hqueued
    items := fun i hi => by
      obtain ⟨j, hj, -, hshaped⟩ := hbehind (htitems ▸ hi)
      exact hshaped (hs.items j hj)
    arbitrated := by
      rw [htready, htflight]
      exact arbitrated_retired hs hitems hflight hentry htitems
    slots := by
      rw [htflight]
      exact slots_removeRecord hs
    records := fun r hr c hc => by
      rw [htflight, List.mem_filter, decide_eq_true_iff] at hr
      cases horigin : r.origin with
      | posted => exact absurd horigin hr.2
      | dtt n =>
        rw [horigin] at hc
        obtain ⟨d, hd, hkind, hcount⟩ := hreworks.request hc
        rw [← hkind, ← hcount]
        exact hs.records r hr.1 d (horigin ▸ hd)
    down := fun hdown => absurd (htrack ▸ hdown) hup
    off := fun hoff => by
      rw [retired_bridge hu', hbridge] at hoff
      exact absurd (hitems.symm.trans ((drainCondition_iff s).1 (hs.off hoff)).2) (List.cons_ne_nil h tl)
    self := by
      obtain ⟨hself, hselfItems⟩ := hs.self
      rw [State.neverToSelf, htrack]
      refine ⟨fun n f hf hopen => ?_, fun i hi => ?_⟩
      · rw [hentry] at hf
        obtain ⟨e, he, rfl⟩ := Option.map_eq_some_iff.1 hf
        rw [oneLess_isComplete] at hopen
        rw [oneLess_reworks e]
        exact hself n e he hopen
      · obtain ⟨j, hj, hslot, -⟩ := hbehind (htitems ▸ hi)
        rw [hslot]
        exact hselfItems j hj
    rrst := fun hline => by
      rw [htrack]
      exact hs.rrst (by rw [← hrrst, ← hline, heq]) }

/-- A retirement of a head in flight, its record removed, keeps the work sound. -/
theorem working_retire (hu : u.work = (removeRecord .posted s).work) : (retire u).working := by
  have hsteady := steady_retired hs hitems hflight hu
  have hu' : u.pwq.items = h :: tl := (congrArg Work.items hu).trans hitems
  rw [retire_eq hu']
  split
  next => exact working_notice hsteady
  next hmore =>
    refine working_of_item hsteady ?_
    rwa [retired_items hu', Ne, promoted_eq_nil]

/-- An outcome for a head in flight, its record removed, keeps the work sound. -/
theorem working_headOutcome (c : CellOutcome) : (handOutcome .posted c (removeRecord .posted s)).working := by
  have hitems' : (removeRecord .posted s).pwq.items = h :: tl := hitems
  have hflying : s.turn .posted = .flying := by rw [turn_posted hitems, hflight]; rfl
  have hdrop (k : ErrorKind) {v : State} (hv : v.work = (removeRecord .posted s).work) : (dropHead h k v).working :=
    working_retire hs hitems hflight (by rw [work_captureError, work_raise, work_bump, hv])
  cases c with
  | accept data =>
    rw [handOutcome_posted_accept hitems' hflight]
    exact working_retire hs hitems hflight rfl
  | busy =>
    rw [handOutcome_posted_busy hitems' hflight]
    by_cases hretry : mayRetry h.budget h.attempts = true
    · rw [busyHead_of_mayRetry _ hretry]
      have hmem : h ∈ s.pwq.items := by rw [hitems]; exact List.mem_cons_self
      obtain ⟨hwrite, hmessage, hstep, hmax, -⟩ := hs.items h hmem
      refine working_moveHead (h' := { h with cond := .deferred (deferralTicks h.step h.attempts) }) hs hitems rfl
        ⟨hwrite, hmessage, hstep, hmax, (mayRetry_iff _ _).1 hretry⟩ (by simp) ?_
        (arbitrated_removeRecord hs hflying) (slots_removeRecord hs) fun r hr => .inl (List.mem_of_mem_filter hr)
      rw [work_setHead, work_bump, work_removeRecord]
      simp [State.work, hitems]
    · rw [busyHead_of_exhausted _ hretry]
      exact hdrop _ rfl
  | reject =>
    rw [handOutcome_posted_reject hitems' hflight]
    exact hdrop _ rfl
  | noAnswer =>
    rw [handOutcome_posted_noAnswer hitems' hflight]
    exact hdrop _ rfl
  | malformed =>
    rw [handOutcome_posted_malformed hitems' hflight]
    exact hdrop _ rfl

end Retirement

/-! ## Cells that leave flight (R97, R98) -/

section Landing

variable {s : State} (hs : s.steady)
include hs

/-- An origin with a record in flight is one whose owner waits for the outcome: the outcome keeps the work sound. -/
theorem working_handOutcome {r : InFlight} {c : CellOutcome} (hr : r ∈ s.arbiter.inFlight)
    (haccept : ∀ data, c = .accept data → r.kind = .read ∨ r.kind = .exchange → data.length = r.size) :
    (handOutcome r.origin c (removeRecord r.origin s)).working := by
  have hflying : s.turn r.origin = .flying := (hs.arbitrated.mem_flight _).1 (List.mem_map_of_mem hr)
  cases horigin : r.origin with
  | dtt n =>
    rw [horigin, turn_dtt_eq_flying_iff] at hflying
    obtain ⟨e, hn, hissued⟩ := Option.map_eq_some_iff.1 hflying
    obtain ⟨hkind, hsize⟩ := hs.records r hr _ (by rw [horigin]; exact originRequest_dtt hn)
    refine working_entryOutcome hs hn hissued fun data hdata hnot => ?_
    rw [haccept data hdata, hsize, entryRequest_eq]
    rw [hkind, entryRequest_eq]
    cases hk : e.kind with
    | read => exact .inl rfl
    | exchange => exact .inr rfl
    | cwrite => exact absurd hk hnot
  | posted =>
    rw [horigin] at hflying
    cases hitems : s.pwq.items with
    | nil =>
      rw [turn_posted_empty hitems] at hflying
      exact Turn.noConfusion hflying
    | cons h tl =>
      rw [turn_posted hitems, ItemCond.turn_eq_flying_iff] at hflying
      exact working_headOutcome hs hitems hflying c

end Landing

/-- An answer classified as ACCEPT brings the bytes that the record asked for (R98). -/
theorem accept_of_classify {code : BitVec 3} {p data : List Byte} {r : InFlight}
    (h : classify code p r = .accept data) (hreturns : r.kind = .read ∨ r.kind = .exchange) : data.length = r.size := by
  by_cases hzero : code = 0
  · rw [hzero, classify_zero_of_returns r p hreturns] at h
    split at h
    · rwa [← CellOutcome.accept.inj h]
    · contradiction
  · unfold classify at h
    rw [if_neg hzero] at h
    split at h
    · split at h <;> contradiction
    · split at h
      · split at h <;> contradiction
      · contradiction

/-- A response keeps the work sound. -/
theorem working_response {s : State} (hs : s.working) (origin gen : BitVec 4) (code : BitVec 3) (p : List Byte) :
    (response origin gen code p s).working := by
  cases hmatch : s.arbiter.matching origin gen with
  | none =>
    rw [response_of_stray code p hmatch]
    exact hs.of_work rfl
  | some r =>
    rw [response_of_matched code p hmatch]
    exact working_handOutcome hs.steady (arbiter_matching_sound hmatch).1 fun _ hclass => accept_of_classify hclass

/-- An origin whose response timer has run out has a record in flight. -/
theorem exists_record_of_expired {a : Arbiter} {o : Origin} (h : a.expired o = true) :
    ∃ r ∈ a.inFlight, r.origin = o := by
  obtain ⟨r, hr, hdue⟩ := List.any_eq_true.1 h
  exact ⟨r, hr, (by simpa using hdue : r.origin = o ∧ r.left = 0).1⟩

/-- The expiry of a response timer keeps the work sound. -/
theorem working_responseExpiryOp {s : State} (hs : s.working) (o : Origin) : (responseExpiryOp o s).working := by
  unfold responseExpiryOp
  split
  next hdue =>
    obtain ⟨r, hr, rfl⟩ := exists_record_of_expired hdue
    exact working_handOutcome hs.steady hr fun _ hclass => CellOutcome.noConfusion hclass
  next => exact hs

/-- Reception keeps the work sound. -/
theorem working_receive {s : State} (hs : s.working) (f : List Byte) : (receive f s).working := by
  obtain h | h | ⟨-, origin, gen, code, p, h⟩ | ⟨a, h⟩ | ⟨a, sender, p, h⟩ := receive_cases f s <;> rw [h]
  · exact hs
  · exact hs.of_work rfl
  · exact working_response hs origin gen code p
  · exact hs.of_work rfl
  · obtain ⟨-, h⟩ | h := arrival_cases sender p s <;> rw [h]
    · exact hs.of_work rfl
    · exact hs.of_work rfl

end Sys2Proof.Machine
end

section
/-! SUPPORT. Deferred and posted work under issues, expiries, frees, ticks, captures, acceptance and the reset lines. -/

namespace Sys2Proof.Machine

/-! ## Issue (R89, R94) -/

/-- One attempt more than an allowed number below the budget is allowed. -/
theorem attemptsAllowed_issued {budget : BitVec 4} {attempts : Nat} (h : attemptsAllowed budget attempts true) :
    attemptsAllowed budget (min (attempts + 1) 15) false := by
  obtain ⟨-, hbudget⟩ := h
  refine ⟨Nat.min_le_right _ _, hbudget.imp_right fun hlt => ?_⟩
  exact (Nat.min_le_left _ _).trans (show attempts < budget.toNat from hlt)

section Issue

variable {s : State} {o : Origin} {rest : List Origin} (hs : s.steady) (hfront : s.arbiter.ready = o :: rest)
include hs hfront

/-- The arbiter's lists after the front is issued. -/
theorem arbitrated_issued (r : InFlight) (hr : r.origin = o) :
    Arbitrated rest ((s.arbiter.inFlight ++ [r]).map InFlight.origin) (Function.update s.turn o .flying) := by
  rw [List.map_append, List.map_singleton, hr]
  exact (hfront ▸ hs.arbitrated).issue

theorem turn_front : s.turn o = .ready :=
  (hs.arbitrated.mem_ready o).1 (hfront ▸ List.mem_cons_self)

variable (hslot : s.arbiter.inFlight.length < 4)
include hslot

/-- Issuing the front of the ready list keeps the work sound. -/
theorem working_issueOrigin {r : Request} (hrequest : originRequest o s = some r) :
    (issueOrigin o rest r s).working := by
  have hready := turn_front hs hfront
  have hslots (q : InFlight) : (s.arbiter.inFlight ++ [q]).length ≤ 4 := by
    rw [List.length_append]
    exact hslot
  rw [issueOrigin_eq]
  cases o with
  | dtt n =>
    obtain ⟨e, hn, hphase⟩ := Option.map_eq_some_iff.1 ((turn_dtt_eq_ready_iff n).1 hready)
    obtain ⟨⟨hsize, haligned, hexchange, hdata, hstep, hattempts⟩, -, -⟩ := hs.entries n e hn
    rw [hphase] at hattempts
    rw [originRequest_dtt hn] at hrequest
    obtain rfl := Option.some.inj hrequest
    rw [tellIssued_dtt (s := frontTaken (.dtt n) rest _ s) hn]
    refine working_moveEntry (e' := { e with attempts := min (e.attempts + 1) 15, phase := .issued }) hs hn
      (by rw [Entry.isComplete, hphase]) rfl
      ⟨hsize, haligned, hexchange, hdata, hstep, attemptsAllowed_issued hattempts⟩ (resultFits_of_not_complete rfl) rfl
      rfl (arbitrated_issued hs hfront _ rfl) (hslots _) fun q hq => ?_
    obtain hold | hnew := List.mem_append.1 hq
    · exact .inl hold
    · rw [List.mem_singleton.1 hnew]
      exact .inr ⟨rfl, rfl, rfl⟩
  | posted =>
    cases hitems : s.pwq.items with
    | nil =>
      rw [turn_posted_empty hitems] at hready
      exact Turn.noConfusion hready
    | cons h tl =>
      rw [turn_posted hitems, ItemCond.turn_eq_ready_iff] at hready
      have hmem : h ∈ s.pwq.items := by rw [hitems]; exact List.mem_cons_self
      obtain ⟨hwrite, hmessage, hstep, hattempts⟩ := hs.items h hmem
      rw [hready] at hattempts
      rw [originRequest_posted hitems] at hrequest
      obtain rfl := Option.some.inj hrequest
      rw [tellIssued_posted (s := frontTaken .posted rest _ s) hitems]
      refine working_moveHead (h' := { h with attempts := min (h.attempts + 1) 15, cond := .inFlight }) hs hitems rfl
        ⟨hwrite, hmessage, hstep, attemptsAllowed_issued hattempts⟩ (by simp)
        rfl (arbitrated_issued hs hfront _ rfl) (hslots _) fun q hq => ?_
      obtain hold | hnew := List.mem_append.1 hq
      · exact .inl hold
      · rw [List.mem_singleton.1 hnew]
        exact .inr ⟨rfl, rfl, rfl⟩

end Issue

/-- The arbiter's turn keeps the work sound, with ISSUE_CAP at most 4. -/
theorem working_issueOp {s : State} (hs : s.working) (hcap : s.arbiter.issueCap.toNat ≤ 4) : (issueOp s).working := by
  by_cases hmay : s.mayIssue = true
  · obtain ⟨-, honline, hslot⟩ := (mayIssue_iff s).1 hmay
    cases hready : s.arbiter.ready with
    | nil => simpa [issueOp, hmay, hready] using hs
    | cons o rest =>
      cases hrequest : originRequest o s with
      | none => simpa [issueOp, hmay, hready, hrequest] using hs
      | some r =>
        rw [issueOp_of_front honline hslot hready hrequest]
        exact working_issueOrigin hs.steady hready (hslot.trans_le hcap) hrequest
  · rw [issueOp_of_not_mayIssue hmay]
    exact hs

/-! ## The deferral expiry (R13, R33, R134) -/

/-- The expiry of a deferral timer keeps the work sound: its origin was idle, and joins the ready list. -/
theorem working_deferralExpiryOp {s : State} (hs : s.working) (o : Origin) : (deferralExpiryOp o s).working := by
  cases o with
  | dtt n =>
    cases hn : s.dtt.entry n with
    | none => simpa [deferralExpiryOp, hn] using hs
    | some e =>
      by_cases hdue : e.phase = .deferred 0
      · obtain ⟨⟨hsize, haligned, hexchange, hdata, hstep, hattempts⟩, -, -⟩ := hs.steady.entries n e hn
        rw [hdue] at hattempts
        have hidle : s.turn (.dtt n) = .idle := by rw [turn_dtt hn, hdue]; rfl
        simp only [deferralExpiryOp, hn, if_pos hdue]
        exact working_moveEntry (e' := { e with phase := .waiting 0 }) hs.steady hn (by rw [Entry.isComplete, hdue]) rfl
          ⟨hsize, haligned, hexchange, hdata, hstep, hattempts⟩ (resultFits_of_not_complete rfl) rfl rfl
          (hs.steady.arbitrated.join hidle) hs.steady.slots fun r hr => .inl hr
      · simpa [deferralExpiryOp, hn, hdue] using hs
  | posted =>
    cases hitems : s.pwq.items with
    | nil => simpa [deferralExpiryOp, hitems] using hs
    | cons h tl =>
      by_cases hdue : h.cond = .deferred 0
      · have hmem : h ∈ s.pwq.items := by rw [hitems]; exact List.mem_cons_self
        obtain ⟨hwrite, hmessage, hstep, hattempts⟩ := hs.steady.items h hmem
        rw [hdue] at hattempts
        have hidle : s.turn .posted = .idle := by rw [turn_posted hitems, hdue]; rfl
        simp only [deferralExpiryOp, hitems, if_pos hdue]
        refine working_moveHead (h' := { h with cond := .ready }) hs.steady hitems rfl
          ⟨hwrite, hmessage, hstep, hattempts⟩ (by simp) ?_
          (hs.steady.arbitrated.join hidle) hs.steady.slots fun r hr => .inl hr
        simp [State.work, setHead, join, hitems]
      · simpa [deferralExpiryOp, hitems, hdue] using hs

/-! ## Entries freed (R15, R21, R26) -/

section Free

variable {s : State} {n : Fin 8} {e : Entry} (hs : s.steady) (hn : s.dtt.entry n = some e)
  (hcomplete : e.isComplete = true)
include hs hn hcomplete

/-- Freeing a COMPLETE entry leaves the rest of the work sound. -/
theorem steady_freeEntry : (freeEntry n s).steady := by
  have hentry {m : Fin 8} {f : Entry} (hf : (freeEntry n s).dtt.entry m = some f) :
      n ≠ m ∧ s.dtt.entry m = some f := by
    rw [entry_freeEntry] at hf
    split at hf
    · contradiction
    · exact ⟨‹_›, hf⟩
  have hidle : e.phase.turn = .idle := by
    unfold Entry.isComplete at hcomplete
    split at hcomplete
    next r d hphase => rw [hphase]; rfl
    next => contradiction
  have hturn : (freeEntry n s).turn = s.turn := by
    funext o
    cases o with
    | dtt m =>
      by_cases hm : n = m
      · subst hm
        rw [turn_dtt hn, hidle, turn_dtt_free (by rw [entry_freeEntry, if_pos rfl])]
      · rw [State.turn, State.turn, entry_freeEntry, if_neg hm]
    | posted => rfl
  exact {
    order := by
      obtain ⟨hnodup, hmem⟩ := hs.order
      refine ⟨hnodup.filter _, fun m => ?_⟩
      show m ∈ s.dtt.order.filter (· ≠ n) ↔ _
      rw [List.mem_filter, decide_eq_true_iff, entry_freeEntry, hmem]
      by_cases hm : n = m
      · simp [hm]
      · simp [hm, Ne.symm hm]
    keys := fun m k hne f hf g hg => hs.keys m k hne f (hentry hf).2 g (hentry hg).2
    entries := fun m f hf => hs.entries m f (hentry hf).2
    depth := hs.depth
    conditions := hs.conditions
    items := hs.items
    arbitrated := hs.arbitrated.congr hturn
    slots := hs.slots
    records := fun r hr c hc => by
      refine hs.records r hr c ?_
      cases horigin : r.origin with
      | posted => rwa [horigin] at hc
      | dtt m =>
        rw [horigin] at hc
        obtain ⟨f, hf, rfl⟩ := Option.map_eq_some_iff.1 hc
        exact originRequest_dtt (hentry hf).2
    down := fun hdown => by
      obtain ⟨hready, hflight, hitems, hall⟩ := hs.down hdown
      exact ⟨hready, hflight, hitems, fun m f hf => hall m f (hentry hf).2⟩
    off := fun hoff => by
      have hfree := ((drainCondition_iff s).1 (hs.off hoff)).1 n
      exact absurd (hfree.symm.trans hn) (Option.some_ne_none e).symm
    self := ⟨fun m f hf => hs.self.1 m f (hentry hf).2, hs.self.2⟩
    rrst := hs.rrst }

/-- Freeing a COMPLETE entry, with its reports and its notice, keeps the work sound. -/
theorem working_free {u : State} (hu : u.work = (freeEntry n s).work) : (notice u).working :=
  working_notice ((steady_freeEntry hs hn hcomplete).of_work hu)

end Free

/-- The discard of an entry whose timer has run out keeps the work sound. -/
theorem working_discardExpiryOp {s : State} (hs : s.working) (n : Fin 8) : (discardExpiryOp n s).working := by
  unfold discardExpiryOp
  split
  next e hn =>
    split
    next r hphase =>
      refine working_free hs.steady hn (by rw [Entry.isComplete, hphase]) ?_
      unfold reportLoss
      split
      · rw [work_captureError]
        rfl
      · rfl
    next => exact hs
  next => exact hs

/-- Purging an entry keeps the work sound. -/
theorem working_purgeEntry {s : State} (hs : s.working) (n : Fin 8) : (purgeEntry n s).working := by
  unfold purgeEntry
  split
  next hcomplete =>
    cases hn : s.dtt.entry n with
    | none => exact absurd hcomplete (not_completeAt_of_free hn)
    | some e =>
      rw [State.completeAt, hn] at hcomplete
      exact working_free hs.steady hn hcomplete rfl
  next => exact hs

/-- Purging the entries of a list keeps the work sound. -/
theorem working_foldl_purgeEntry {s : State} (hs : s.working) (l : List (Fin 8)) :
    (l.foldl (fun t n => purgeEntry n t) s).working := by
  induction l generalizing s with
  | nil => exact hs
  | cons n l ih => exact ih (working_purgeEntry hs n)

/-! ## Ticks (R124) -/

section Tick

variable (e : Entry) (i : Item)

theorem entry_tick_reworks : e.tick.reworks e := by
  unfold Entry.tick
  split <;> rfl

/-- A tick keeps all of an entry that the invariants speak of. -/
theorem entry_tick_same :
    e.tick.phase.turn = e.phase.turn ∧ e.tick.phase.sendable = e.phase.sendable ∧
      e.tick.phase.readData = e.phase.readData ∧ e.tick.phase.writesAhead = e.phase.writesAhead ∧
      e.tick.isComplete = e.isComplete ∧ e.tick.attempts = e.attempts := by
  unfold Entry.tick
  split
  next k hphase => rw [Entry.isComplete, Entry.isComplete, hphase]; exact ⟨rfl, rfl, rfl, rfl, rfl, rfl⟩
  next r k hphase =>
    rw [Entry.isComplete, Entry.isComplete, hphase]
    refine ⟨rfl, rfl, ?_, rfl, rfl, rfl⟩
    cases r <;> rfl
  next => exact ⟨rfl, rfl, rfl, rfl, rfl, rfl⟩

/-- A tick keeps all of an item but its timer. -/
theorem item_tick_same :
    i.tick = { i with cond := i.tick.cond } ∧ i.tick.cond.turn = i.cond.turn ∧
      (i.tick.cond = .queued ↔ i.cond = .queued) ∧ (i.tick.cond = .inFlight ↔ i.cond = .inFlight) := by
  unfold Item.tick
  split
  next k hcond => simp [hcond, ItemCond.turn]
  next => exact ⟨rfl, rfl, Iff.rfl, Iff.rfl⟩

end Tick

/-- An item after a tick is as sound as before. -/
theorem item_tick_shaped {i : Item} (h : i.shaped) : i.tick.shaped := by
  obtain ⟨hsame, -, -, hflight⟩ := item_tick_same i
  obtain ⟨hwrite, hmessage, hstep, hattempts⟩ := h
  have hsendable : (i.tick.cond != .inFlight) = (i.cond != .inFlight) := by
    rw [Bool.eq_iff_iff, bne_iff_ne, bne_iff_ne, Ne, Ne, hflight]
  rw [hsame]
  exact ⟨hwrite, hmessage, hstep, hsendable ▸ hattempts⟩

/-- A tick keeps the conditions of the queue. -/
theorem tick_conditions {items : List Item} (h : Pwq.conditions { items := items }) :
    Pwq.conditions { items := items.map Item.tick } := by
  obtain ⟨hhead, htail⟩ := h
  refine ⟨fun i hi => ?_, fun i hi => ?_⟩
  · obtain ⟨j, hj, rfl⟩ := Option.map_eq_some_iff.1 (List.head?_map ▸ hi)
    exact fun hqueued => hhead j hj ((item_tick_same j).2.2.1.1 hqueued)
  · rw [← List.map_tail] at hi
    obtain ⟨j, hj, rfl⟩ := List.mem_map.1 hi
    obtain ⟨hsame, -, hqueued, -⟩ := item_tick_same j
    obtain ⟨hcond, hattempts⟩ := htail j hj
    exact ⟨hqueued.2 hcond, by rw [hsame]; exact hattempts⟩

/-- A tick keeps the work sound. -/
theorem working_tickOp {s : State} (hs : s.working) : (tickOp s).working := by
  have hst := hs.steady
  have hentry (n : Fin 8) : (tickOp s).dtt.entry n = (s.dtt.entry n).map Entry.tick :=
    get_mapEntries Entry.tick s.dtt.entries n
  have hitems : (tickOp s).pwq.items = s.pwq.items.map Item.tick := rfl
  have hreworks : (tickOp s).reworks s := reworks_of_map rfl hentry entry_tick_reworks
  have hlength : (tickOp s).pwq.items.length = s.pwq.items.length := List.length_map _
  have hdrain : (tickOp s).drainCondition = s.drainCondition := hreworks.drainCondition (by rw [hitems, List.map_eq_nil_iff])
  have horigins : (tickOp s).arbiter.inFlight.map InFlight.origin = s.arbiter.inFlight.map InFlight.origin := by
    show (s.arbiter.inFlight.map _).map _ = _
    rw [List.map_map]
    rfl
  have hturn : (tickOp s).turn = s.turn := by
    funext o
    cases o with
    | dtt n =>
      rw [State.turn, State.turn, hentry, Option.map_map]
      congr 2
      funext e
      exact (entry_tick_same e).1
    | posted =>
      rw [State.turn, State.turn, hitems, List.head?_map, Option.map_map]
      congr 2
      funext i
      exact (item_tick_same i).2.1
  refine ⟨?_, fun hdraining => hdrain ▸ hs.draining hdraining⟩
  exact {
    order := hreworks.orderExact hst.order
    keys := hreworks.keysDistinct hst.keys
    entries := fun n f hf => by
      rw [hentry] at hf
      obtain ⟨e, he, rfl⟩ := Option.map_eq_some_iff.1 hf
      obtain ⟨⟨hsize, haligned, hexchange, hdata, hstep, hattempts⟩, hfits, hahead⟩ := hst.entries n e he
      obtain ⟨-, hsendable, hread, hwrites, -, hsame⟩ := entry_tick_same e
      rw [Entry.aheadAtMost, hwrites, hlength, Entry.resultFits, hread, Entry.shaped, hsendable, hsame,
        entry_tick_reworks e]
      exact ⟨⟨hsize, haligned, hexchange, hdata, hstep, hattempts⟩, hfits, hahead⟩
    depth := hlength ▸ hst.depth
    conditions := tick_conditions hst.conditions
    items := fun i hi => by
      obtain ⟨j, hj, rfl⟩ := List.mem_map.1 hi
      exact item_tick_shaped (hst.items j hj)
    arbitrated := by
      rw [horigins]
      exact hst.arbitrated.congr hturn
    slots := by
      show (s.arbiter.inFlight.map _).length ≤ 4
      rw [List.length_map]
      exact hst.slots
    records := fun r hr c hc => by
      obtain ⟨q, hq, rfl⟩ := List.mem_map.1 hr
      have hold := hst.records q hq
      cases horigin : q.origin with
      | dtt n =>
        rw [horigin] at hold
        obtain ⟨d, hd, hkind, hcount⟩ := hreworks.request (n := n) (by rw [← horigin]; exact hc)
        rw [← hkind, ← hcount]
        exact hold d hd
      | posted =>
        rw [horigin] at hold
        have hc' : originRequest .posted (tickOp s) = some c := by rw [← horigin]; exact hc
        rw [originRequest, hitems, List.head?_map, Option.map_map] at hc'
        obtain ⟨i, hi, rfl⟩ := Option.map_eq_some_iff.1 hc'
        refine hold _ ?_
        show (s.pwq.items.head?.map itemRequest) = some (itemRequest i.tick)
        rw [hi, (item_tick_same i).1]
        rfl
    down := fun hdown => by
      obtain ⟨hready, hflight, hempty, hall⟩ := hst.down hdown
      refine ⟨hready, by show s.arbiter.inFlight.map _ = []; rw [hflight]; rfl, by rw [hitems, hempty]; rfl, ?_⟩
      intro n f hf
      rw [hentry] at hf
      obtain ⟨e, he, rfl⟩ := Option.map_eq_some_iff.1 hf
      rw [(entry_tick_same e).2.2.2.2.1]
      exact hall n e he
    off := fun hoff => hdrain.trans (hst.off hoff)
    self := by
      obtain ⟨hself, hselfItems⟩ := hst.self
      refine ⟨fun n f hf hopen => ?_, fun i hi => ?_⟩
      · rw [hentry] at hf
        obtain ⟨e, he, rfl⟩ := Option.map_eq_some_iff.1 hf
        rw [(entry_tick_same e).2.2.2.2.1] at hopen
        rw [entry_tick_reworks e]
        exact hself n e he hopen
      · obtain ⟨j, hj, rfl⟩ := List.mem_map.1 hi
        rw [(item_tick_same j).1]
        exact hselfItems j hj
    rrst := hst.rrst }

end Sys2Proof.Machine
end

section
/-! SUPPORT. Composed messages, and deferred and posted work under acceptance, captures and window-select accesses. -/

namespace Sys2Proof.Machine

/-! ## Composed messages (R39, R194) -/

/-- Four bytes for each payload word. -/
theorem length_flatMap_bytesOfWord (l : List Word) : (l.flatMap bytesOfWord).length = 4 * l.length := by
  induction l with
  | nil => rfl
  | cons w l ih =>
    rw [List.flatMap_cons, List.length_append, ih, List.length_cons, Nat.mul_succ, Nat.add_comm]
    rfl

/-- The bytes of the words after the first come four places later. -/
theorem getD_flatMap_bytesOfWord (l : List Word) (k j : Nat) (hj : j < 4) :
    (l.flatMap bytesOfWord).getD (4 * k + j) 0 = (bytesOfWord (l.getD k 0)).getD j 0 := by
  have hzero : ∀ i, i < 4 → (bytesOfWord 0).getD i 0 = 0 := by decide
  induction l generalizing k with
  | nil => exact (hzero j hj).symm
  | cons w l ih =>
    rw [List.flatMap_cons]
    cases k with
    | zero => rw [Nat.mul_zero, Nat.zero_add, List.getD_append _ _ _ _ hj, List.getD_cons_zero]
    | succ k =>
      have hlength : (bytesOfWord w).length = 4 := rfl
      rw [List.getD_append_right _ _ _ _ (by omega), List.getD_cons_succ, ← ih]
      congr 1
      omega

/-- A word is the word of its four bytes. -/
theorem wordOfBytes_bytesOfWord (w : Word) :
    wordOfBytes (w.extractLsb' 24 8) (w.extractLsb' 16 8) (w.extractLsb' 8 8) (w.extractLsb' 0 8) = w := by
  rw [wordOfBytes, BitVec.extractLsb'_append_extractLsb'_eq_extractLsb' (by decide),
    BitVec.extractLsb'_append_extractLsb'_eq_extractLsb' (by decide),
    BitVec.extractLsb'_append_extractLsb'_eq_extractLsb' (by decide)]
  exact BitVec.extractLsb'_eq_self

/-- A composed message has the length it was composed with. -/
theorem length_composedItem {c : Compose} (h : goodLength c.length.toNat = true) :
    (composedItem c).data.length = c.length.toNat := by
  obtain ⟨hfour, -, hmax⟩ := (goodLength_iff _).1 h
  have hsize : c.payload.toArray.toList.length = 8 := c.payload.size_toArray
  show (List.flatMap bytesOfWord _).length = _
  rw [length_flatMap_bytesOfWord, List.length_take, hsize]
  omega

/-- Settles O34: byte 4k + j of the message is byte j of word k, and a word is the word of its bytes. -/
theorem composedWordsReadBackWordForWord : Obligations.ComposedWordsReadBackWordForWord := by
  intro c k hgood
  obtain ⟨hfour, hmin, hmax⟩ := (goodLength_iff _).1 hgood
  refine ⟨length_composedItem hgood, ?_⟩
  have hsize : c.payload.toArray.toList.length = 8 := c.payload.size_toArray
  rw [payloadWord, length_composedItem hgood]
  by_cases hin : 4 * k.val < c.length.toNat
  · have hword : (c.payload.toArray.toList.take (c.length.toNat / 4)).getD k.val 0 = c.payload.get k := by
      rw [List.getD_eq_getElem?_getD, List.getElem?_take_of_lt (by omega)]
      have hk : k.val < c.payload.toArray.toList.length := by rw [hsize]; exact k.isLt
      rw [List.getElem?_eq_getElem hk]
      rfl
    have hbyte (j : Nat) (hj : j < 4) :
        (composedItem c).data.getD (4 * k.val + j) 0 = (bytesOfWord (c.payload.get k)).getD j 0 := by
      rw [← hword]
      exact getD_flatMap_bytesOfWord _ _ _ hj
    rw [if_neg (by omega), if_pos hin, ← Nat.add_zero (4 * k.val), hbyte 0 (by decide), Nat.add_zero, hbyte 1 (by decide),
      hbyte 2 (by decide), hbyte 3 (by decide)]
    exact wordOfBytes_bytesOfWord _
  · rw [if_pos (by omega), if_neg hin]

/-! ## Acceptance into the PWQ (R33, R34, R39) -/

/-- Where the origins stand after an item joins the tail: P is ready if it is the head, and else nothing changes. -/
theorem turn_appendItem (i : Item) (s : State) :
    (appendItem i s).turn = if s.pwq.items = [] then Function.update s.turn .posted .ready else s.turn := by
  rw [appendItem_eq]
  split
  next hempty =>
    funext o
    cases o with
    | dtt n => rw [Function.update_of_ne (by simp)]; rfl
    | posted => rw [Function.update_self, State.turn]; simp [hempty, ItemCond.turn]
  next hheld =>
    funext o
    cases o with
    | dtt n => rfl
    | posted => rw [State.turn, State.turn]; simp [List.head?_append_of_ne_nil _ hheld]

/-- An item that joins the tail in RUNNING and not DOWN keeps the work sound. -/
theorem working_appendItem {s : State} {i : Item} (hs : s.working) (hrun : s.bridge.state = .running)
    (hup : s.rack.state ≠ .down) (hroom : s.pwq.items.length < 32) (hshaped : i.shaped) (hcond : i.cond = .queued)
    (hattempts : i.attempts = 0) (hself : i.slot ≠ s.rack.ownSlot) : (appendItem i s).working := by
  have hst := hs.steady
  obtain ⟨hhead, htail⟩ := hst.conditions
  have heq := appendItem_eq i s
  have hitems : (appendItem i s).pwq.items =
      s.pwq.items ++ [{ i with cond := if s.pwq.items = [] then .ready else .queued }] := by rw [heq]
  have hdtt : (appendItem i s).dtt = s.dtt := by rw [heq]
  have hentry : (appendItem i s).dtt.entry = s.dtt.entry := by rw [hdtt]
  have hrack : (appendItem i s).rack = s.rack := by rw [heq]
  have hbridge : (appendItem i s).bridge.state = .running := by rw [heq]; exact hrun
  have hflight : (appendItem i s).arbiter.inFlight = s.arbiter.inFlight := by rw [heq]
  have hready : (appendItem i s).arbiter.ready =
      if s.pwq.items = [] then s.arbiter.ready ++ [.posted] else s.arbiter.ready := by rw [heq]
  have hlength : (appendItem i s).pwq.items.length = s.pwq.items.length + 1 := by rw [hitems, List.length_append]; rfl
  have hnew : Item.shaped { i with cond := if s.pwq.items = [] then .ready else .queued } := by
    obtain ⟨hwrite, hmessage, hstep, hallowed⟩ := hshaped
    rw [hcond] at hallowed
    refine ⟨hwrite, hmessage, hstep, ?_⟩
    show attemptsAllowed i.budget i.attempts ((if s.pwq.items = [] then ItemCond.ready else .queued) != .inFlight)
    split <;> exact hallowed
  refine working_of_running ?_ hbridge
  exact {
    order := by rw [State.orderExact, hdtt]; exact hst.order
    keys := by rw [State.keysDistinct, hdtt]; exact hst.keys
    entries := fun n e he => by
      obtain ⟨hshape, hfits, hahead⟩ := hst.entries n e (hentry ▸ he)
      exact ⟨hshape, hfits, hahead.trans (by rw [hlength]; exact Nat.le_succ _)⟩
    depth := by rw [hlength]; exact hroom
    conditions := by
      rw [Pwq.conditions, hitems]
      by_cases hempty : s.pwq.items = []
      · simp [hempty]
      · rw [List.head?_append_of_ne_nil _ hempty, List.tail_append_of_ne_nil hempty, if_neg hempty]
        refine ⟨hhead, fun j hj => ?_⟩
        obtain hold | hlast := List.mem_append.1 hj
        · exact htail j hold
        · rw [List.mem_singleton.1 hlast]
          exact ⟨rfl, hattempts⟩
    items := fun j hj => by
      rw [hitems] at hj
      obtain hold | hlast := List.mem_append.1 hj
      · exact hst.items j hold
      · rw [List.mem_singleton.1 hlast]
        exact hnew
    arbitrated := by
      rw [turn_appendItem, hflight, hready]
      split
      · exact hst.arbitrated.join (turn_posted_empty ‹_›)
      · exact hst.arbitrated
    slots := by rw [hflight]; exact hst.slots
    records := fun r hr c hc => by
      rw [hflight] at hr
      refine hst.records r hr c ?_
      cases horigin : r.origin with
      | dtt n =>
        rw [horigin] at hc
        rwa [originRequest, hentry] at hc
      | posted =>
        have hflying : s.turn .posted = .flying := by
          rw [← horigin]
          exact (hst.arbitrated.mem_flight _).1 (List.mem_map_of_mem hr)
        have hheld : s.pwq.items ≠ [] := fun hempty => by
          rw [turn_posted_empty hempty] at hflying
          exact Turn.noConfusion hflying
        rw [horigin] at hc
        rwa [originRequest, hitems, List.head?_append_of_ne_nil _ hheld] at hc
    down := fun hdown => absurd (hrack ▸ hdown) hup
    off := fun hoff => by simp [hbridge] at hoff
    self := by
      rw [State.neverToSelf, hentry, hrack, hitems]
      refine ⟨hst.self.1, fun j hj => ?_⟩
      obtain hold | hlast := List.mem_append.1 hj
      · exact hst.self.2 j hold
      · rw [List.mem_singleton.1 hlast]
        exact hself
    rrst := fun hline => by
      have hdown := hst.rrst (by rw [← hline, heq])
      exact absurd hdown hup }

/-! ## Captures (R5) -/

/-- A WAITING entry captured into a FREE index in RUNNING and not DOWN keeps the work sound. -/
theorem working_captureAt {s : State} {m : Fin 8} {e : Entry} {ahead : Nat} (hs : s.working)
    (hrun : s.bridge.state = .running) (hup : s.rack.state ≠ .down) (hm : s.dtt.entry m = none) (hshaped : e.shaped)
    (hphase : e.phase = .waiting ahead) (hahead : ahead ≤ s.pwq.items.length)
    (hkey : ∀ n : Fin 8, ∀ f ∈ s.dtt.entry n, ¬ f.sameKey e) (hself : e.slot ≠ s.rack.ownSlot) :
    (captureAt m e s).working := by
  have hst := hs.steady
  have heq := captureAt_eq m e s
  have hentry (n : Fin 8) : (captureAt m e s).dtt.entry n = if m = n then some e else s.dtt.entry n := by
    rw [heq, ← entry_setEntry]
    rfl
  have hpwq : (captureAt m e s).pwq = s.pwq := by rw [heq]
  have hrack : (captureAt m e s).rack = s.rack := by rw [heq]
  have hbridge : (captureAt m e s).bridge.state = .running := by rw [heq]; exact hrun
  have hflight : (captureAt m e s).arbiter.inFlight = s.arbiter.inFlight := by rw [heq]
  have horder : (captureAt m e s).dtt.order = s.dtt.order ++ [m] := by rw [heq]
  have hunlisted : m ∉ s.dtt.order := fun hmem => by simpa [hm] using (hst.order.2 m).1 hmem
  have hcases {n : Fin 8} {f : Entry} (hf : (captureAt m e s).dtt.entry n = some f) :
      (m = n ∧ e = f) ∨ (m ≠ n ∧ s.dtt.entry n = some f) := by
    rw [hentry] at hf
    split at hf
    · exact .inl ⟨‹_›, Option.some.inj hf⟩
    · exact .inr ⟨‹_›, hf⟩
  have hturn : (captureAt m e s).turn = Function.update s.turn (.dtt m) e.phase.turn := by
    funext o
    cases o with
    | dtt n =>
      by_cases hn : n = m
      · subst hn
        rw [Function.update_self, turn_dtt (by rw [hentry, if_pos rfl])]
      · rw [Function.update_of_ne (by simpa using hn), State.turn, State.turn, hentry, if_neg (Ne.symm hn)]
    | posted => rw [Function.update_of_ne (by simp), State.turn, State.turn, hpwq]
  have hidle : s.turn (.dtt m) = .idle := turn_dtt_free hm
  refine working_of_running ?_ hbridge
  exact {
    order := by
      obtain ⟨hnodup, hmem⟩ := hst.order
      rw [State.orderExact, horder]
      refine ⟨List.nodup_append.2 ⟨hnodup, List.nodup_singleton m, fun a ha b hb hab => ?_⟩, fun n => ?_⟩
      · exact hunlisted (List.mem_singleton.1 hb ▸ hab ▸ ha)
      · rw [List.mem_append, hmem, List.mem_singleton, hentry]
        by_cases hn : m = n
        · simp [hn]
        · simp [hn, Ne.symm hn]
    keys := fun j k hne f hf g hg hsame => by
      obtain ⟨rfl, rfl⟩ | ⟨-, hf'⟩ := hcases hf
      · obtain ⟨rfl, -⟩ | ⟨-, hg'⟩ := hcases hg
        · exact hne rfl
        · obtain ⟨hrequester, hkind, haddress, hsize⟩ := hsame
          exact hkey k g hg' ⟨hrequester.symm, hkind.symm, haddress.symm, hsize.symm⟩
      · obtain ⟨rfl, rfl⟩ | ⟨-, hg'⟩ := hcases hg
        · exact hkey j f hf' hsame
        · exact hst.keys j k hne f hf' g hg' hsame
    entries := fun n f hf => by
      rw [hpwq]
      obtain ⟨-, rfl⟩ | ⟨-, hf'⟩ := hcases hf
      · exact ⟨hshaped, resultFits_of_not_complete (by rw [hphase]; rfl), by rw [Entry.aheadAtMost, hphase]; exact hahead⟩
      · exact hst.entries n f hf'
    depth := by rw [hpwq]; exact hst.depth
    conditions := by rw [hpwq]; exact hst.conditions
    items := by rw [hpwq]; exact hst.items
    arbitrated := by
      rw [hturn, hflight, heq]
      by_cases hnothing : e.phase = .waiting 0
      · rw [if_pos hnothing, hnothing]
        exact hst.arbitrated.join hidle
      · have hwaits : e.phase.turn = .idle := by
          rw [hphase] at hnothing ⊢
          cases ahead with
          | zero => exact absurd rfl hnothing
          | succ k => rfl
        rw [if_neg hnothing, hwaits, ← hidle, Function.update_eq_self]
        exact hst.arbitrated
    slots := by rw [hflight]; exact hst.slots
    records := fun r hr c hc => by
      rw [hflight] at hr
      refine hst.records r hr c ?_
      cases horigin : r.origin with
      | posted =>
        rw [horigin] at hc
        rwa [originRequest, hpwq] at hc
      | dtt n =>
        have hflying : s.turn (.dtt n) = .flying := by
          rw [← horigin]
          exact (hst.arbitrated.mem_flight _).1 (List.mem_map_of_mem hr)
        have hne : m ≠ n := fun heq => by
          rw [← heq, hidle] at hflying
          exact Turn.noConfusion hflying
        rw [horigin] at hc
        rwa [originRequest, hentry, if_neg hne] at hc
    down := fun hdown => absurd (hrack ▸ hdown) hup
    off := fun hoff => by simp [hbridge] at hoff
    self := by
      rw [State.neverToSelf, hrack, hpwq]
      refine ⟨fun n f hf hopen => ?_, hst.self.2⟩
      obtain ⟨-, rfl⟩ | ⟨-, hf'⟩ := hcases hf
      · exact hself
      · exact hst.self.1 n f hf' hopen
    rrst := fun hline => by
      have hdown := hst.rrst (by rw [← hline, heq])
      exact absurd hdown hup }

/-! ## Window-select accesses (R75) -/

/-- An access that no match is found for agrees with no entry (R2). -/
theorem unmatched_of_matching {s : State} {a : Access} (h : s.dtt.matching a = none) : s.unmatched a := by
  intro n e hn
  have hnone := List.findSome?_eq_none_iff.1 h n (mem_eight n)
  rw [Option.mem_def.1 hn] at hnone
  simpa using hnone

/-- An entry with the key of a capture has the key of the captured access. -/
theorem hasKey_of_sameKey {f : Entry} {a : Access} {n : Fin 16} {w : Window} {k : Nat}
    (h : f.sameKey (capturedEntry a n w k)) : f.hasKey a = true := by
  obtain ⟨hrequester, hkind, haddress, hsize⟩ := h
  have haccess : f.kind.accessKind = a.kind := by
    rw [hkind]
    show (captureKind a.kind).accessKind = a.kind
    cases a.kind <;> rfl
  have hrequester' : f.requester = a.requester := hrequester
  have haddress' : f.address = a.address := haddress
  have hsize' : f.size = a.size := hsize
  simp [Entry.hasKey, haccess, hrequester', haddress', hsize']

/-- No attempt yet is within any budget. -/
theorem attemptsAllowed_zero (budget : BitVec 4) : attemptsAllowed budget 0 true := by
  refine ⟨Nat.zero_le _, ?_⟩
  by_cases hzero : budget = 0
  · exact .inl hzero
  · exact .inr (Nat.pos_of_ne_zero fun h => hzero (BitVec.eq_of_toNat_eq h))

/-- A well-formed access is decided by the entry it matches (R14 to R17). -/
theorem windowSelect_of_matched {s : State} {a : Access} {n : Fin 8} {e : Entry} (hwf : a.wellFormed = true)
    (hmatch : s.dtt.matching a = some (n, e)) : windowSelect a s = represent a n e s := by
  simp [windowSelect, hwf, hmatch]

/-- A well-formed access that matches no entry is a new access. -/
theorem windowSelect_of_unmatched {s : State} {a : Access} (hwf : a.wellFormed = true)
    (hmatch : s.dtt.matching a = none) : windowSelect a s = newAccess a s := by
  simp [windowSelect, hwf, hmatch]

/-- A window found by a lookup is legal where the enabled windows are: its step is not 0. -/
theorem step_ne_zero_of_lookup {s : State} {x : Addr} {n : Fin 16} {w : Window} (hwin : s.windowsLegal)
    (hlook : s.windows.lookup x = some (n, w)) : w.step ≠ 0 := by
  obtain ⟨rfl, hcontains⟩ := lookup_sound hlook
  have hon : (s.windows.entries.get n).enable = true := by
    simp only [Window.contains, Bool.and_eq_true] at hcontains
    exact hcontains.1.1
  intro hzero
  have hok := hwin n hon
  unfold Window.judge at hok
  rw [if_pos hzero] at hok
  split at hok <;> contradiction

section Access

variable {s : State} {a : Access} {n : Fin 16} {w : Window} (hs : s.working) (hwf : a.wellFormed = true)
  (hfits : a.dataFits = true) (hrun : s.bridge.state = .running) (hup : s.rack.state ≠ .down) (hstep : w.step ≠ 0)
  (hslot : w.slot ≠ s.rack.ownSlot)
include hs hwf hfits hrun hup hstep hslot

/-- Acceptance of a WRITE keeps the work sound. -/
theorem working_accept (hwrite : a.kind = .write) : (accept a n w s).working := by
  obtain ⟨hsize, haligned, -⟩ := (access_wellFormed_iff a).1 hwf
  have hdata : a.writeData.length = a.size := by
    rw [writeData_of_dataFits hfits, if_neg (by simp [hwrite])]
    simpa [Access.dataFits, hwrite] using hfits
  by_cases hroom : s.pwq.items.length < 32
  · rw [accept_of_room hroom]
    have hshaped : (postedItem a n w).shaped := by
      refine ⟨fun address haddress => ?_, fun hmessage => ItemKind.noConfusion hmessage, hstep,
        attemptsAllowed_zero w.budget⟩
      rw [← Option.some.inj haddress]
      show goodSize a.writeData.length ∧ a.address.toNat % a.writeData.length = 0
      rw [hdata]
      exact ⟨hsize, haligned⟩
    exact (working_appendItem hs hrun hup hroom hshaped rfl rfl hslot).of_work rfl
  · rw [accept_of_full (not_lt.1 hroom)]
    exact hs.of_work rfl

/-- A capture of an access that matches no entry keeps the work sound. -/
theorem working_capture (hun : s.unmatched a) : (capture a n w s).working := by
  obtain ⟨hsize, haligned, hexchange⟩ := (access_wellFormed_iff a).1 hwf
  unfold capture
  split
  next m hfree =>
    have hshaped : (capturedEntry a n w s.pwq.items.length).shaped := by
      refine ⟨hsize, haligned, fun hkind => hexchange ?_, ?_, hstep, attemptsAllowed_zero w.budget⟩
      · cases hk : a.kind <;> simp [capturedEntry, captureKind, hk] at hkind ⊢
      · show a.writeData.length = if captureKind a.kind = .read then 0 else a.size
        rw [writeData_of_dataFits hfits]
        cases hk : a.kind <;> simp_all [captureKind, Access.dataFits]
    exact (working_captureAt hs hrun hup (firstFree_sound hfree) hshaped rfl le_rfl
      (fun k f hf hsame => by simpa [hun k f hf] using hasKey_of_sameKey hsame) hslot).of_work rfl
  next => exact hs.of_work rfl

end Access

/-- A window-select access whose data fits keeps the work sound. -/
theorem working_windowSelect {s : State} {a : Access} (hs : s.working) (hwin : s.windowsLegal)
    (hfits : a.dataFits = true) : (windowSelect a s).working := by
  have hfault (i : ErrorInfo) : (faultWith i s).working := hs.of_work (by rw [faultWith, work_reply, work_captureError])
  by_cases hwf : a.wellFormed = true
  case neg => exact windowSelect_of_malformed hwf ▸ hfault _
  case pos =>
    cases hmatch : s.dtt.matching a with
    | some found =>
      obtain ⟨n, e⟩ := found
      obtain ⟨hn, -⟩ := matching_sound hmatch
      rw [windowSelect_of_matched hwf hmatch]
      unfold represent
      split
      · exact hfault _
      · split
        next r d hphase =>
          exact (working_free hs.steady hn (by rw [Entry.isComplete, hphase]) rfl).of_work rfl
        next => exact hs.of_work rfl
    | none =>
      rw [windowSelect_of_unmatched hwf hmatch]
      obtain ⟨i, h⟩ | h | ⟨n, w, hrun, hup, hlook, h⟩ := newAccess_cases a s <;> rw [h]
      · exact hfault i
      · exact hs.of_work rfl
      · have hstep := step_ne_zero_of_lookup hwin hlook
        obtain ⟨i, h⟩ | ⟨hslot, hwrite, h⟩ | ⟨hslot, h⟩ := throughWindow_cases a n w s <;> rw [h]
        · exact hfault i
        · exact working_accept hs hwf hfits hrun hup hstep hslot hwrite
        · exact working_capture hs hwf hfits hrun hup hstep hslot (unmatched_of_matching hmatch)

end Sys2Proof.Machine
end

section
/-! SUPPORT. Deferred and posted work under the bridge commands, the port commands and the reset lines, and the invariant as a
whole. -/

namespace Sys2Proof.Machine

/-! ## States that differ in their gates (R102, R106, R108, R159) -/

/-- With the same deferred and posted work, the gates of the port and the bridge are all there is to see to. -/
theorem State.steady.of_gates {s t : State} {rrst : Bool} {rack : RackPort} {bridge : BridgeState} (hs : s.steady)
    (hwork : t.work = { s.work with rrst := rrst, rack := rack, bridge := bridge })
    (hdown : t.quietWhenDown) (hoff : bridge = .stopped ∨ bridge = .drained → s.drainCondition = true)
    (hself : t.neverToSelf) (hrrst : t.downUnderRrst) : t.steady := by
  simp only [State.work, Work.mk.injEq] at hwork
  obtain ⟨-, -, hbridge, hentries, horder, hitems, hready, hflight⟩ := hwork
  have hentry := entry_of_entries hentries
  have hpwq : t.pwq = s.pwq := congrArg Pwq.mk hitems
  exact {
    order := by rw [State.orderExact, horder, hentry]; exact hs.order
    keys := by rw [State.keysDistinct, hentry]; exact hs.keys
    entries := by rw [hentry, hitems]; exact hs.entries
    depth := by rw [hitems]; exact hs.depth
    conditions := by rw [hpwq]; exact hs.conditions
    items := by rw [hitems]; exact hs.items
    arbitrated := by rw [hready, hflight, turn_congr hentry hitems]; exact hs.arbitrated
    slots := by rw [hflight]; exact hs.slots
    records := by
      simp only [State.recordsMatch, hflight, originRequest_congr hentry hitems]
      exact hs.records
    down := hdown
    off := by rw [State.emptyWhenOff, hbridge, drainCondition_congr hentry hitems]; exact hoff
    self := hself
    rrst := hrrst }

/-! ## Bridge and port commands (R109, R110, R161 to R165) -/

/-- A change of the bridge state that shuts nothing in keeps all but the noticed drain. -/
theorem steady_setBridge {s : State} {b : BridgeState} (hs : s.steady)
    (hoff : b = .stopped ∨ b = .drained → s.drainCondition = true) : (setBridge b s).steady :=
  hs.of_gates (bridge := b) rfl hs.down hoff hs.self hs.rrst

theorem working_drainOp {s : State} (hs : s.working) : (drainOp s).working := by
  unfold drainOp
  split
  · exact working_notice (steady_setBridge hs.steady (by simp))
  all_goals exact hs.of_work rfl

theorem working_purgeOp {s : State} (hs : s.working) : (purgeOp s).working := by
  have hok : (setStatus .ok s).working := hs.of_work rfl
  unfold purgeOp
  split
  · exact working_foldl_purgeEntry hok eight
  · exact working_foldl_purgeEntry hok eight
  all_goals exact hs.of_work rfl

theorem working_stopOp {s : State} (hs : s.working) : (stopOp s).working := by
  unfold stopOp
  split
  next hdrained => exact ⟨steady_setBridge hs.steady fun _ => hs.steady.off (.inr hdrained), fun h => nomatch h⟩
  next hstopped => exact ⟨steady_setBridge hs.steady fun _ => hs.steady.off (.inl hstopped), fun h => nomatch h⟩
  all_goals exact hs.of_work rfl

/-- A change of a port that is not DOWN to PAUSED or ONLINE keeps the work sound. -/
theorem working_setPort {s t : State} {p : PortState} (hs : s.working) (hup : s.rack.state ≠ .down) (hp : p ≠ .down)
    (hwork : t.work = { s.work with rack := { s.rack with state := p } }) : t.working := by
  have hwork' := hwork
  simp only [State.work, Work.mk.injEq] at hwork
  obtain ⟨hrrst, hrack, hbridge, hentries, -, hitems, -, -⟩ := hwork
  have hentry := entry_of_entries hentries
  refine ⟨hs.steady.of_gates (rrst := s.lines.rrst) (bridge := s.bridge.state) hwork' (fun hdown => ?_) hs.steady.off ?_
    fun hline => ?_, ?_⟩
  · rw [hrack] at hdown
    exact absurd hdown hp
  · rw [State.neverToSelf, hentry, hitems, hrack]
    exact hs.steady.self
  · exact absurd (hs.steady.rrst (hrrst ▸ hline)) hup
  · rw [State.drainingBusy, hbridge, drainCondition_congr hentry hitems]
    exact hs.draining

theorem working_goOp {s : State} (hs : s.working) : (goOp s).working := by
  unfold goOp
  split
  next => exact hs.of_work rfl
  next hpaused => exact working_setPort hs (by simp [hpaused]) (by decide : PortState.online ≠ .down) rfl
  next honline => exact working_setPort hs (by simp [honline]) (by decide : PortState.online ≠ .down) rfl

theorem working_pauseOp {s : State} (hs : s.working) : (pauseOp s).working := by
  unfold pauseOp
  split
  next => exact hs.of_work rfl
  next hpaused => exact working_setPort hs (by simp [hpaused]) (by decide : PortState.paused ≠ .down) rfl
  next honline => exact working_setPort hs (by simp [honline]) (by decide : PortState.paused ≠ .down) rfl

theorem working_bridgeCommandWrite {s : State} (hs : s.working) (w : Word) : (bridgeCommandWrite w s).working :=
  bridgeCommandWrite_induction w hs (working_of_running (steady_setBridge hs.steady (by simp)) rfl) (working_drainOp hs)
    (working_purgeOp hs) (working_stopOp hs) (working_goOp hs) (working_pauseOp hs)

/-! ## Register writes -/

/-- SEND is QUEUED when every check of R38 passed. -/
theorem passed_of_sendVerdict {s : State} (h : sendVerdict s = .queued) :
    s.bridge.state = .running ∧ s.rack.state ≠ .down ∧ s.compose.destination ≠ s.rack.ownSlot ∧
      goodLength s.compose.length.toNat = true ∧ s.pwq.items.length < 32 := by
  unfold sendVerdict at h
  split at h
  · contradiction
  · split at h
    · contradiction
    · split at h
      · contradiction
      · split at h
        · contradiction
        · split at h
          · contradiction
          · exact ⟨by simpa using ‹¬ s.bridge.state ≠ .running›, ‹_›, ‹_›, by simpa using ‹¬ (!goodLength _) = true›,
              not_le.1 ‹_›⟩

/-- SEND keeps the work sound. -/
theorem working_sendOp {s : State} (hs : s.working) (hset : s.settingsLegal) : (sendOp s).working := by
  by_cases hqueued : sendVerdict s = .queued
  · obtain ⟨hrun, hup, hother, hgood, hroom⟩ := passed_of_sendVerdict hqueued
    obtain ⟨-, -, -, hstep, -⟩ := hset
    have hshaped : (composedItem s.compose).shaped := by
      refine ⟨fun address haddress => ?_, fun _ => ?_, hstep, attemptsAllowed_zero _⟩
      · exact absurd haddress (by simp [composedItem, ItemKind.localAddress])
      · rw [length_composedItem hgood]
        exact hgood
    rw [sendOp_of_queued hqueued]
    exact (working_appendItem hs hrun hup hroom hshaped rfl rfl hother).of_work rfl
  · rw [sendOp_of_refused rfl hqueued]
    exact hs.of_work rfl

/-- A register write keeps the work sound. -/
theorem working_writeReg {s : State} (hs : s.working) (hset : s.settingsLegal) (r : Reg) (w : Word) :
    (writeReg r w s).working := by
  cases r with
  | bridgeCommand => exact working_bridgeCommandWrite hs w
  | send => exact working_sendOp hs hset
  | windowCommand =>
    obtain ⟨table, heq⟩ := windowCommandWrite_frame w s
    exact hs.of_work (by rw [writeReg, heq]; rfl)
  | compose f =>
    obtain ⟨_, _, _, heq⟩ := composeWriteOp_frame f w s
    exact hs.of_work (by rw [writeReg, heq]; rfl)
  | pop =>
    obtain ⟨_, _, _, heq⟩ := popOp_frame s
    exact hs.of_work (by rw [writeReg, heq]; rfl)
  | _ => exact hs.of_work rfl

/-! ## The reset lines (R23, R47, R106 to R108) -/

/-- A state that is DOWN has nothing that a change of port, own slot or RRST could touch. -/
theorem working_of_down {s t : State} {rrst : Bool} {rack : RackPort} (hs : s.working) (hdown : s.rack.state = .down)
    (hwork : t.work = { s.work with rrst := rrst, rack := rack }) (hline : rrst = true → rack.state = .down) :
    t.working := by
  have hwork' := hwork
  simp only [State.work, Work.mk.injEq] at hwork
  obtain ⟨hrrst, hrack, hbridge, hentries, -, hitems, hready, hflight⟩ := hwork
  have hentry := entry_of_entries hentries
  obtain ⟨hnoReady, hnoFlight, hempty, hall⟩ := hs.steady.down hdown
  refine ⟨hs.steady.of_gates (bridge := s.bridge.state) hwork' (fun _ => ?_) hs.steady.off ⟨fun n e he hopen => ?_,
    fun i hi => ?_⟩ fun hasserted => ?_, ?_⟩
  · rw [hready, hflight, hitems, hentry]
    exact ⟨hnoReady, hnoFlight, hempty, hall⟩
  · rw [hall n e (hentry ▸ he)] at hopen
    contradiction
  · rw [hitems, hempty] at hi
    contradiction
  · rw [hrack]
    exact hline (hrrst ▸ hasserted)
  · rw [State.drainingBusy, hbridge, drainCondition_congr hentry hitems]
    exact hs.draining

/-- An entry at DOWN is COMPLETE, and else the entry it was (R23). -/
theorem rackDown_cases (code : BitVec 5) (e : Entry) :
    (e.isComplete = true ∧ e.rackDown code = e) ∨
      (e.isComplete = false ∧ e.rackDown code = { e with phase := .complete .rackDown (discardTicks code) }) := by
  unfold Entry.rackDown Entry.isComplete
  cases e.phase with
  | complete r d => exact .inl ⟨rfl, rfl⟩
  | waiting | issued | deferred => exact .inr ⟨rfl, rfl⟩

theorem rackDown_reworks (code : BitVec 5) (e : Entry) : (e.rackDown code).reworks e := by
  obtain ⟨-, h⟩ | ⟨-, h⟩ := rackDown_cases code e <;> rw [h]

theorem rackDown_isComplete (code : BitVec 5) (e : Entry) : (e.rackDown code).isComplete = true := by
  obtain ⟨hcomplete, h⟩ | ⟨-, h⟩ := rackDown_cases code e <;> rw [h]
  · exact hcomplete
  · rfl

/-- A COMPLETE entry is idle, and nothing is ahead of it. -/
theorem idle_of_isComplete {e : Entry} (h : e.isComplete = true) : e.phase.turn = .idle ∧ e.phase.writesAhead = 0 := by
  unfold Entry.isComplete at h
  split at h
  next r d hphase => rw [hphase]; exact ⟨rfl, rfl⟩
  next => contradiction

/-- Attempts that allow another are within the budget. -/
theorem attemptsAllowed_spent {budget : BitVec 4} {attempts : Nat} {sendable : Bool}
    (h : attemptsAllowed budget attempts sendable) : attemptsAllowed budget attempts false := by
  obtain ⟨hmax, hbudget⟩ := h
  refine ⟨hmax, hbudget.imp_right fun hspent => ?_⟩
  cases sendable with
  | false => exact hspent
  | true => exact Nat.le_of_lt hspent

theorem rackDown_sound {code : BitVec 5} {e : Entry} (hshaped : e.shaped) (hfits : e.resultFits) :
    (e.rackDown code).shaped ∧ (e.rackDown code).resultFits := by
  obtain ⟨-, h⟩ | ⟨-, h⟩ := rackDown_cases code e <;> rw [h]
  · exact ⟨hshaped, hfits⟩
  · obtain ⟨hsize, haligned, hexchange, hdata, hstep, hattempts⟩ := hshaped
    exact ⟨⟨hsize, haligned, hexchange, hdata, hstep, attemptsAllowed_spent hattempts⟩, resultFits_of_not_complete rfl⟩

/-- The entry into DOWN before its notice: nothing ready, in flight or posted, and every entry COMPLETE. -/
theorem steady_downed {s t : State} {code : BitVec 5} (hs : s.steady)
    (hwork : t.work = { s.work with
      rrst := true, rack := { s.rack with state := .down }, entries := mapEntries (Entry.rackDown code) s.dtt.entries
      items := [], ready := [], inFlight := [] }) : t.steady := by
  simp only [State.work, Work.mk.injEq] at hwork
  obtain ⟨-, hrack, hbridge, hentries, horder, hitems, hready, hflight⟩ := hwork
  have hentry (n : Fin 8) : t.dtt.entry n = (s.dtt.entry n).map (Entry.rackDown code) := by
    rw [Dtt.entry, hentries, get_mapEntries]
    rfl
  have hpwq : t.pwq = { items := [] } := congrArg Pwq.mk hitems
  have hreworks : t.reworks s := reworks_of_map horder hentry (rackDown_reworks code)
  have hall (n : Fin 8) (f : Entry) (hf : t.dtt.entry n = some f) : f.isComplete = true := by
    rw [hentry] at hf
    obtain ⟨e, -, rfl⟩ := Option.map_eq_some_iff.1 hf
    exact rackDown_isComplete code e
  have hidle (o : Origin) : t.turn o = .idle := by
    cases o with
    | posted => exact turn_posted_empty hitems
    | dtt n =>
      cases hn : t.dtt.entry n with
      | none => exact turn_dtt_free hn
      | some f => rw [turn_dtt hn, (idle_of_isComplete (hall n f hn)).1]
  exact {
    order := hreworks.orderExact hs.order
    keys := hreworks.keysDistinct hs.keys
    entries := fun n f hf => by
      have hahead := (idle_of_isComplete (hall n f hf)).2
      rw [hentry] at hf
      obtain ⟨e, he, rfl⟩ := Option.map_eq_some_iff.1 hf
      obtain ⟨hshaped, hfits, -⟩ := hs.entries n e he
      obtain ⟨hshaped', hfits'⟩ := rackDown_sound (code := code) hshaped hfits
      exact ⟨hshaped', hfits', hahead.trans_le (Nat.zero_le _)⟩
    depth := by rw [hitems]; exact Nat.zero_le _
    conditions := by rw [hpwq]; exact ⟨fun i hi => (nomatch hi), fun i hi => (nomatch hi)⟩
    items := fun i hi => by rw [hitems] at hi; contradiction
    arbitrated := by
      rw [hready, hflight]
      exact ⟨List.nodup_nil, fun o => by simp [hidle], List.nodup_nil, fun o => by simp [hidle]⟩
    slots := by rw [hflight]; exact Nat.zero_le _
    records := fun r hr => by rw [hflight] at hr; contradiction
    down := fun _ => ⟨hready, hflight, hitems, hall⟩
    off := fun hoff => by
      obtain ⟨hfree, -⟩ := (drainCondition_iff s).1 (hs.off (hbridge ▸ hoff))
      rw [drainCondition_iff]
      exact ⟨fun n => by rw [hentry, hfree]; rfl, hitems⟩
    self := by
      refine ⟨fun n f hf hopen => ?_, fun i hi => ?_⟩
      · rw [hall n f hf] at hopen
        contradiction
      · rw [hitems] at hi
        contradiction
    rrst := fun _ => by rw [hrack] }

/-- The discard of the PWQ at DOWN: nothing with an empty queue, else its counting, its error and the notice (R47). -/
theorem discardQueue_of_nil {s : State} (hitems : s.pwq.items = []) : discardQueue s = s := by
  rw [discardQueue, hitems]

theorem discardQueue_of_cons {s : State} {h : Item} {tl : List Item} (hitems : s.pwq.items = h :: tl) :
    discardQueue s =
      notice { captureError (itemError .rackDown h) (raise .drop (bump .dropped s.pwq.items.length s)) with
        pwq := { s.pwq with items := [] } } := by
  rw [discardQueue, hitems]

/-- The state at DOWN with its entries completed, before the PWQ is discarded (R106, R23). -/
def downed (s : State) : State := completeRackDown (flushArbiter { s with rack := { s.rack with state := .down } })

theorem enterDown_eq (s : State) : enterDown s = raise .rackDown (discardQueue (downed s)) := rfl

theorem work_downed {s u : State} (hu : u.work = { s.work with rrst := true }) :
    (downed u).work = { s.work with
      rrst := true, rack := { s.rack with state := .down }, ready := [], inFlight := []
      entries := mapEntries (Entry.rackDown u.dtt.discardTime) s.dtt.entries } := by
  simp only [State.work, Work.mk.injEq] at hu
  obtain ⟨hrrst, hrack, hbridge, hentries, horder, hitems, -, -⟩ := hu
  simp [State.work, downed, completeRackDown, flushArbiter, hrrst, hrack, hbridge, hentries, horder, hitems]

/-- The entry into DOWN keeps the work sound. -/
theorem working_enterDown {s u : State} (hs : s.working) (hu : u.work = { s.work with rrst := true }) :
    (enterDown u).working := by
  have hwork := work_downed hu
  have hitems : (downed u).pwq.items = s.pwq.items := congrArg Work.items hwork
  have hbridge : (downed u).bridge.state = s.bridge.state := congrArg Work.bridge hwork
  have hentries : (downed u).dtt.entries = mapEntries (Entry.rackDown u.dtt.discardTime) s.dtt.entries :=
    congrArg Work.entries hwork
  suffices h : (discardQueue (downed u)).working from h.of_work rfl
  cases hqueue : s.pwq.items with
  | nil =>
    have hentry (n : Fin 8) : (downed u).dtt.entry n = (s.dtt.entry n).map (Entry.rackDown u.dtt.discardTime) := by
      rw [Dtt.entry, hentries, get_mapEntries]
      rfl
    have horder : (downed u).dtt.order = s.dtt.order := congrArg Work.order hwork
    have hreworks : (downed u).reworks s := reworks_of_map horder hentry (rackDown_reworks _)
    rw [discardQueue_of_nil (hitems.trans hqueue)]
    refine ⟨steady_downed hs.steady (code := u.dtt.discardTime) (hwork.trans (by simp [State.work, hqueue])), ?_⟩
    rw [State.drainingBusy, hbridge, hreworks.drainCondition (by rw [hitems])]
    exact hs.draining
  | cons h tl =>
    rw [discardQueue_of_cons (hitems.trans hqueue)]
    refine working_notice (steady_downed hs.steady (code := u.dtt.discardTime) ?_)
    have hcaptured : (captureError (itemError .rackDown h)
        (raise .drop (bump .dropped (downed u).pwq.items.length (downed u)))).work = (downed u).work := by simp
    exact congrArg (fun w : Work => { w with items := [] }) (hcaptured.trans hwork)

end Sys2Proof.Machine
end

section
/-! SUPPORT. The invariant of every step: the work of the part in each way a command runs, what stays of the queue of commands
and of a part held in reset, and the whole. -/

namespace Sys2Proof.Machine

/-! ## The reset state -/

/-- Settles O3: the reset state is one state, and each part of its soundness is a closed fact. -/
theorem resetStateIsSound : Obligations.ResetStateIsSound where
  settings := legal_reset.1
  windows := legal_reset.2
  counts := countsBounded_reset
  imq := consistent_reset
  flow := ⟨by decide, by decide, by decide, by decide, by decide, by decide, by decide, by decide, by decide⟩
  gates := ⟨by decide, by decide, by decide, by decide, by decide, by decide⟩
  queue := by decide

theorem working_reset : State.reset.working := by
  obtain ⟨-, -, -, hworking, -, -⟩ := (sound_iff _).1 resetStateIsSound
  exact hworking

/-! ## The work in each way a command runs -/

/-- A part held in reset is DOWN. -/
theorem down_of_heldInReset {s : State} (hs : s.heldInReset) (hcrst : s.lines.crst = true) : s.rack.state = .down := by
  rw [hs hcrst]
  rfl

/-- Every well-formed command keeps the work of a sound state sound. -/
theorem working_of_ran {c : Instr} {s t : State} (h : Ran c s t) (hwf : c.isWellFormed = true) (hlegal : s.legal)
    (hs : s.working) (hreset : s.heldInReset) : t.working := by
  obtain ⟨hset, hwin⟩ := hlegal
  have hq : s.quiet.working := hs.of_work (work_quiet s)
  cases h with
  | replied _ _ a => exact hs.of_work (work_reply a s)
  | quieted => exact hq
  | @wrote _ _ r w => exact (working_writeReg hs hset r w).of_work (work_reply _ _)
  | accessed a _ hfits => exact working_windowSelect hs hwin (hfits hwf)
  | noticed => exact working_notice hq.steady
  | issued =>
    obtain ⟨-, -, -, -, -, ⟨-, hcap⟩, -⟩ := hset
    exact working_issueOp hq hcap
  | received _ f => exact working_receive hq f
  | responseExpired _ o => exact working_responseExpiryOp hq o
  | deferralExpired _ o => exact working_deferralExpiryOp hq o
  | discardExpired _ n => exact working_discardExpiryOp hq n
  | ticked => exact working_tickOp hq
  | cardReset => exact working_of_down working_reset rfl rfl fun _ => rfl
  | crstReleased pins hcrst =>
    refine working_of_down hs (down_of_heldInReset hreset hcrst) (t := releaseCrst pins s.quiet) rfl fun hline => ?_
    exact congrArg RackPort.state (if_pos hline)
  | rrstFollowed _ level hlevel =>
    obtain hcrst | hsame := hlevel
    · have hdown := down_of_heldInReset hreset hcrst
      exact working_of_down hs hdown (t := setRrst level s.quiet) rfl fun _ => hdown
    · subst hsame
      exact hs.of_work rfl
  | rrstAsserted => exact working_enterDown hs rfl
  | rrstReleased pins _ hline =>
    exact working_of_down hs (hs.steady.rrst hline) (t := leaveDown pins (setRrst false s.quiet)) rfl
      fun h => (nomatch h)

/-! ## The queue of commands and the part held in reset -/

/-- A register write leaves the reset lines and the waiting commands. -/
theorem lines_pending_writeReg (r : Reg) (w : Word) (s : State) :
    (writeReg r w s).lines = s.lines ∧ (writeReg r w s).pending = s.pending := by
  cases r with
  | bridgeCommand =>
    have hsetup := (steers_bridgeCommandWrite w s).1
    exact ⟨lines_of_setup hsetup, pending_of_setup hsetup⟩
  | windowCommand =>
    obtain ⟨table, heq⟩ := windowCommandWrite_frame w s
    rw [writeReg, heq]
    exact ⟨rfl, rfl⟩
  | compose f =>
    obtain ⟨_, _, _, heq⟩ := composeWriteOp_frame f w s
    rw [writeReg, heq]
    exact ⟨rfl, rfl⟩
  | send =>
    obtain ⟨_, _, _, heq⟩ := sendOp_frame s
    rw [writeReg, heq]
    exact ⟨rfl, rfl⟩
  | pop =>
    obtain ⟨_, _, _, heq⟩ := popOp_frame s
    rw [writeReg, heq]
    exact ⟨rfl, rfl⟩
  | _ => exact ⟨rfl, rfl⟩

/-- No command touches the queue of waiting commands. -/
theorem pending_of_ran {c : Instr} {s t : State} (h : Ran c s t) : t.pending = s.pending := by
  have hkept {u : State} (hworks : Works s.quiet u) : u.pending = s.pending := pending_of_setup hworks.setup
  cases h with
  | replied | quieted | ticked | rrstFollowed | crstReleased | rrstReleased | cardReset => rfl
  | @wrote _ _ r w => exact (lines_pending_writeReg r w s).2
  | accessed a => exact pending_of_setup (works_windowSelect a s).setup
  | noticed => exact hkept (works_notice _)
  | issued => exact hkept (works_issueOp _)
  | received _ f =>
    obtain hwork | ⟨_, _, _, -, heq⟩ := receive_works_or_stores f s.quiet
    · exact hkept hwork
    · rw [heq]
      rfl
  | responseExpired _ o => exact hkept (works_responseExpiryOp o _)
  | deferralExpired _ o => exact hkept (works_deferralExpiryOp o _)
  | discardExpired _ n => exact hkept (works_discardExpiryOp n _)
  | rrstAsserted => exact (pending_of_setup (works_enterDown (setRrst true s.quiet)).setup :)

/-- A part that is not under CRST is not held in reset. -/
theorem heldInReset_of_live {s : State} (h : s.lines.crst = false) : s.heldInReset :=
  fun hcrst => absurd (h.symm.trans hcrst) (by decide)

/-- The reset lines, the answer and the waiting commands are all that a part held in reset may still change. -/
theorem heldInReset_setOutside {s : State} {lines : Lines} {answer : Option Answer} {cs : List Instr}
    (hs : s.heldInReset) (hcrst : s.lines.crst = true) :
    { s with lines := lines, answer := answer, sent := none, pending := cs }.heldInReset :=
  fun _ => congrArg (fun u : State => { u with lines := lines, answer := answer, sent := none, pending := cs }) (hs hcrst)

/-- While CRST is asserted a command leaves the part as card reset left it, and card reset makes it so. -/
theorem heldInReset_of_ran {c : Instr} {s t : State} (h : Ran c s t) (hs : s.heldInReset) : t.heldInReset := by
  have hkept {u : State} (hlive : s.live) (hworks : Works s.quiet u) : u.heldInReset :=
    heldInReset_of_live ((congrArg Lines.crst (lines_of_setup hworks.setup)).trans hlive)
  cases h with
  | replied => exact fun hcrst => heldInReset_setOutside hs hcrst hcrst
  | quieted => exact fun hcrst => heldInReset_setOutside hs hcrst hcrst
  | @wrote _ _ r w hlive => exact heldInReset_of_live ((congrArg Lines.crst (lines_pending_writeReg r w s).1).trans hlive)
  | accessed a hlive =>
    exact heldInReset_of_live ((congrArg Lines.crst (lines_of_setup (works_windowSelect a s).setup)).trans hlive)
  | noticed _ hlive => exact hkept hlive (works_notice _)
  | issued _ hlive => exact hkept hlive (works_issueOp _)
  | received _ f hlive =>
    obtain hwork | ⟨_, _, _, -, heq⟩ := receive_works_or_stores f s.quiet
    · exact hkept hlive hwork
    · rw [heq]
      exact heldInReset_of_live hlive
  | responseExpired _ o hlive => exact hkept hlive (works_responseExpiryOp o _)
  | deferralExpired _ o hlive => exact hkept hlive (works_deferralExpiryOp o _)
  | discardExpired _ n hlive => exact hkept hlive (works_discardExpiryOp n _)
  | ticked _ hlive => exact heldInReset_of_live hlive
  | cardReset => exact fun _ => rfl
  | crstReleased => exact heldInReset_of_live rfl
  | rrstFollowed => exact fun hcrst => heldInReset_setOutside (s := s) hs hcrst hcrst
  | rrstAsserted _ hlive =>
    exact heldInReset_of_live
      ((congrArg Lines.crst (lines_of_setup (works_enterDown (setRrst true s.quiet)).setup)).trans hlive)
  | rrstReleased _ hlive => exact heldInReset_of_live hlive

/-! ## The whole -/

/-- A step from a sound state runs a well-formed command, and each part of the invariant is kept by it. -/
theorem sound_of_exec {c : Instr} {s t : State} (hs : s.sound) (hwf : c.isWellFormed = true)
    (hexec : exec c s = .next t) : t.sound := by
  obtain ⟨hlegal, hcounts, himq, hworking, hreset, hqueue⟩ := (sound_iff s).1 hs
  have hran := exec_ran hexec
  refine (sound_iff t).2 ⟨?_, everyCommandKeepsTheCountsBounded c s t hcounts hexec,
    everyCommandKeepsTheInboundQueueConsistent c s t himq hexec, working_of_ran hran hwf hlegal hworking hreset,
    heldInReset_of_ran hran hreset, ?_⟩
  · exact everyCommandKeepsSettingsAndWindowsLegal c s t hlegal.1 hlegal.2 hexec
  · rw [pending_of_ran hran]
    exact hqueue

/-- Soundness does not depend on which well-formed commands wait. -/
theorem sound_setPending {s : State} {cs : List Instr} (hs : s.sound) (hqueue : ∀ c ∈ cs, c.isWellFormed = true) :
    { s with pending := cs }.sound := by
  obtain ⟨hlegal, hcounts, himq, hworking, hreset, -⟩ := (sound_iff s).1 hs
  refine (sound_iff _).2 ⟨hlegal, hcounts, himq, hworking.of_work rfl, fun hcrst => ?_, hqueue⟩
  exact congrArg (fun u : State => { u with pending := cs }) (hreset hcrst)

/-- Settles O4: the front command is well formed and runs from a sound state, and every way a command runs keeps the
invariant. -/
theorem everyStepKeepsTheStateSound : Obligations.EveryStepKeepsTheStateSound := by
  intro s t hs hstep
  obtain ⟨-, -, -, -, -, hqueue⟩ := (sound_iff s).1 hs
  unfold step at hstep
  split at hstep
  next =>
    obtain rfl := Host.Outcome.next.inj hstep
    exact hs
  next c rest hpending =>
    rw [hpending] at hqueue
    obtain ⟨hwf, hrest⟩ := List.forall_mem_cons.1 hqueue
    exact sound_of_exec (sound_setPending hs hrest) hwf hstep

end Sys2Proof.Machine
end

section
/-! Window-select accesses: the entry that an access matches decides it alone, the lowest-numbered window refuses it alone, and
a translation stays in the window's target range. -/

namespace Sys2Proof.Machine

/-! ## The entry an access matches (R2, R14 to R17) -/

/-- Two entries with the key of one access have one key. -/
theorem sameKey_of_hasKey {e f : Entry} {a : Access} (he : e.hasKey a = true) (hf : f.hasKey a = true) : e.sameKey f := by
  simp only [Entry.hasKey, Bool.and_eq_true, beq_iff_eq] at he hf
  obtain ⟨⟨⟨hrequester, hkind⟩, haddress⟩, hsize⟩ := he
  obtain ⟨⟨⟨hrequester', hkind'⟩, haddress'⟩, hsize'⟩ := hf
  have hkinds : e.kind = f.kind := by
    have h := hkind.trans hkind'.symm
    revert h
    cases e.kind <;> cases f.kind <;> simp [TxnKind.accessKind]
  exact ⟨hrequester.trans hrequester'.symm, hkinds, haddress.trans haddress'.symm, hsize.trans hsize'.symm⟩

/-- With distinct keys, the entry with an access's key is the one the access matches. -/
theorem matching_eq_some {s : State} {a : Access} {n : Fin 8} {e : Entry} (hkeys : s.keysDistinct)
    (hn : s.dtt.entry n = some e) (hkey : e.hasKey a = true) : s.dtt.matching a = some (n, e) := by
  cases hmatch : s.dtt.matching a with
  | none => exact absurd hkey (by simpa using unmatched_of_matching hmatch n e hn)
  | some found =>
    obtain ⟨m, f⟩ := found
    obtain ⟨hm, hfound⟩ := matching_sound hmatch
    by_cases hmn : m = n
    · subst hmn
      obtain rfl := Option.some.inj (hm.symm.trans hn)
      rfl
    · exact absurd (sameKey_of_hasKey hfound hkey) (hkeys m n hmn f hm e hn)

/-- With as many bytes as its size, an access mismatches an entry where it carries other data (R16). -/
theorem mismatch_iff {a : Access} {e : Entry} (hfits : a.dataFits = true) :
    mismatch a e = true ↔ a.kind ≠ .read ∧ a.data ≠ e.data := by
  unfold mismatch
  cases hk : a.kind with
  | read => simp
  | write | exchange =>
    have hlen : a.data.length = a.size := by simpa [Access.dataFits, hk] using hfits
    simp [← hlen]

/-- What a matching access does to its entry: it is refused, told to come back, or collects the result (R14 to R16). -/
theorem represent_of_mismatch {a : Access} {n : Fin 8} {e : Entry} {s : State} (h : mismatch a e = true) :
    represent a n e s = (captureError (mismatchError a e) s).reply .fault := if_pos h

theorem represent_of_pending {a : Access} {n : Fin 8} {e : Entry} {s : State} (h : ¬ mismatch a e = true)
    (hpending : e.isComplete = false) : represent a n e s = s.reply .retry := by
  rw [represent, if_neg h]
  split
  next r d hphase => simp [Entry.isComplete, hphase] at hpending
  next => rfl

theorem represent_of_complete {a : Access} {n : Fin 8} {e : Entry} {s : State} {r : TxnResult} {d : Option Nat}
    (h : ¬ mismatch a e = true) (hphase : e.phase = .complete r d) :
    represent a n e s = (notice (freeEntry n s)).reply (collectAnswer e.kind r) := by
  rw [represent, if_neg h, hphase]

/-- Settles O17: the key finds the one entry, and its data and its phase decide. -/
theorem matchingAccessIsDecidedByItsEntry : Obligations.MatchingAccessIsDecidedByItsEntry := by
  intro a s n e hlive hwf hfits hkeys hn hkey
  have hexec : exec (.windowSelectAccess a) s = .next (represent a n e s) := by
    rw [exec_windowSelectAccess, localStep_live _ hlive,
      windowSelect_of_matched hwf (matching_eq_some hkeys hn hkey)]
  have hagrees (hdata : a.kind = .read ∨ a.data = e.data) : ¬ mismatch a e = true := fun h => by
    obtain ⟨hkind, hdiffer⟩ := (mismatch_iff hfits).1 h
    exact hdata.elim hkind hdiffer
  refine ⟨fun hkind hdiffer => ?_, fun hdata hpending => ?_, fun r d hdata hphase => ?_⟩
  · rw [hexec, represent_of_mismatch ((mismatch_iff hfits).2 ⟨hkind, hdiffer⟩)]
    rfl
  · rw [hexec, represent_of_pending (hagrees hdata) hpending]
    rfl
  · rw [hexec, represent_of_complete (hagrees hdata) hphase]
    cases r with
    | ok data => cases e.kind <;> rfl
    | _ => rfl

/-! ## The window an access finds (R56, R58) -/

/-- The index list holds index i at place i. -/
theorem getElem_windowIndices (i : Nat) (h : i < windowIndices.length) : windowIndices[i] = ⟨i, h⟩ := by
  have hall : ∀ k : Fin 16, windowIndices[k.val]'k.isLt = k := by decide
  exact hall ⟨i, h⟩

/-- A window that contains the address, with none below it that does, is the one a lookup finds. -/
theorem lookup_eq_some {t : WindowTable} {x : Addr} {n : Fin 16} (hcontains : (t.entries.get n).contains x = true)
    (hlow : ∀ m : Fin 16, m < n → (t.entries.get m).contains x = false) :
    t.lookup x = some (n, t.entries.get n) := by
  have hfind : (windowIndices.find? fun m => (t.entries.get m).contains x) = some n := by
    refine List.find?_eq_some_iff_getElem.2
      ⟨hcontains, n.val, n.isLt, getElem_windowIndices _ _, fun j hj => ?_⟩
    rw [getElem_windowIndices, hlow ⟨j, hj.trans n.isLt⟩ hj]
    rfl
  rw [WindowTable.lookup, hfind]
  rfl

/-- Settles O19: the lookup finds that window, and its two checks refuse in order. -/
theorem foundWindowAloneRefuses : Obligations.FoundWindowAloneRefuses := by
  rintro a s n w hlive hwf hun hrun hup rfl hcontains hlow
  have hexec : exec (.windowSelectAccess a) s = .next (throughWindow a n (s.windows.entries.get n) s) := by
    rw [exec_windowSelectAccess_unmatched hlive hwf hun, newAccess_of_lookup hrun hup (lookup_eq_some hcontains hlow)]
  refine ⟨fun hself => ?_, fun hother hrefused => ?_⟩
  · rw [hexec, throughWindow, if_pos hself]
    rfl
  · obtain hreadOnly | ⟨hexchange, hnone⟩ := hrefused
    · rw [hexec, throughWindow, if_neg hother, if_pos hreadOnly]
      rfl
    · rw [hexec, throughWindow, if_neg hother, if_neg (by simp [hexchange]), if_pos ⟨hexchange, hnone⟩]
      rfl

/-! ## Translation (R53, R57) -/

/-- COMMIT's checks pass where the size code is from 12 to 30, the step is not 0, and both bases are aligned. -/
theorem aligned_of_judge {w : Window} (h : w.judge = .ok) :
    w.sizeCode.toNat ≤ 30 ∧ 2 ^ w.sizeCode.toNat ∣ w.localBase.toNat ∧ 2 ^ w.sizeCode.toNat ∣ w.targetBase.toNat := by
  unfold Window.judge at h
  split at h
  · contradiction
  · split at h
    · contradiction
    · split at h
      · contradiction
      · split at h
        · contradiction
        · next hsize _ hlocal htarget =>
          simp only [Bool.or_eq_true, decide_eq_true_eq, not_or, not_lt] at hsize
          simp only [alignedTo, Bool.not_eq_true', Bool.not_eq_false, beq_iff_eq] at hlocal htarget
          exact ⟨hsize.2, Nat.dvd_of_mod_eq_zero hlocal, Nat.dvd_of_mod_eq_zero htarget⟩

/-- An aligned base has room for its whole range below 2 to the 32. -/
theorem add_size_le_of_aligned {base : Addr} {k : Nat} (hk : k ≤ 32) (haligned : 2 ^ k ∣ base.toNat) :
    base.toNat + 2 ^ k ≤ 2 ^ 32 := by
  obtain ⟨p, hp⟩ := haligned
  obtain ⟨q, hq⟩ : 2 ^ k ∣ 2 ^ 32 := Nat.pow_dvd_pow 2 hk
  have hlt := base.isLt
  rw [hp, hq] at hlt ⊢
  have hpq : p < q := Nat.lt_of_mul_lt_mul_left hlt
  calc 2 ^ k * p + 2 ^ k = 2 ^ k * (p + 1) := by ring
    _ ≤ 2 ^ k * q := Nat.mul_le_mul_left _ hpq

/-- Settles O22: the offset in the window is below the window's size, which both bases are multiples of. -/
theorem translationStaysInTheTargetRange : Obligations.TranslationStaysInTheTargetRange := by
  intro w addr hjudge hcontains
  obtain ⟨hsize, hlocal, htarget⟩ := aligned_of_judge hjudge
  simp only [Window.contains, Bool.and_eq_true, decide_eq_true_eq] at hcontains
  obtain ⟨⟨-, hlow⟩, hhigh⟩ := hcontains
  have hroom := add_size_le_of_aligned (hsize.trans (by decide)) htarget
  have heq : (w.translate addr).toNat = w.targetBase.toNat + (addr.toNat - w.localBase.toNat) := by
    rw [Window.translate, BitVec.toNat_add, BitVec.toNat_sub_of_le (BitVec.le_def.2 hlow), Nat.mod_eq_of_lt]
    omega
  refine ⟨heq, by omega, by omega, ?_⟩
  obtain ⟨p, hp⟩ := hlocal
  obtain ⟨q, hq⟩ := htarget
  obtain ⟨k, hk⟩ := Nat.exists_eq_add_of_le hlow
  rw [heq, hk, Nat.add_sub_cancel_left, hp, hq, Nat.mul_add_mod, Nat.mul_add_mod]

end Sys2Proof.Machine
end

section
/-! The entry into DOWN as a whole, with what raising an event, capturing an error and a notice do to the pending events. -/

namespace Sys2Proof.Machine

/-! ## Pending events after a report (R171, R172) -/

/-- Pending events depend on the edges and the messages of the IMQ alone. -/
theorem isPending_congr {s t : State} (hedges : t.events.edges = s.events.edges)
    (hmessages : t.imq.messages = s.imq.messages) (v : Event) : t.isPending v = s.isPending v := by
  rw [isPending_eq, isPending_eq, hedges, hmessages]

/-- Raising an edge event makes it pending, and no other. -/
theorem isPending_raise {e : Event} (hedge : e ≠ .msg) (s : State) (v : Event) :
    (raise e s).isPending v = true ↔ s.isPending v = true ∨ v = e := by
  have hbit : e.mask.getLsbD v.bit = decide (v = e) := by
    cases e <;> cases v <;> rfl
  rw [isPending_eq, isPending_eq, raise_imq, raise_events, BitVec.getLsbD_or, hbit]
  by_cases hmsg : v = .msg
  · simp [hmsg, hedge.symm]
  · simp [hmsg]

/-- Capturing an error raises ERROR where the record was empty. -/
theorem isPending_captureError (i : ErrorInfo) (s : State) (v : Event) :
    (captureError i s).isPending v = true ↔ s.isPending v = true ∨ (v = .error ∧ s.events.capture = none) := by
  obtain ⟨hempty, heq⟩ | ⟨h, hheld, heq⟩ := captureError_cases i s
  · rw [heq, and_iff_left hempty]
    exact isPending_raise (by decide) _ v
  · rw [heq, hheld, or_iff_left fun ⟨_, hnone⟩ => nomatch hnone]
    exact Iff.rfl

/-- A notice raises DRAINED where it finishes a drain. -/
theorem isPending_notice (s : State) (v : Event) :
    (notice s).isPending v = true ↔
      s.isPending v = true ∨ (v = .drained ∧ s.bridge.state = .draining ∧ s.drainCondition = true) := by
  obtain ⟨hdraining, hempty, heq⟩ | ⟨hno, heq⟩ := notice_cases s
  · rw [heq, and_iff_left ⟨hdraining, hempty⟩]
    exact isPending_raise (by decide) _ v
  · rw [heq, or_iff_left fun ⟨_, hyes⟩ => hno hyes]

/-- What the record holds after an error depends on what it held alone. -/
theorem capture_captureError_congr {s t : State} (i : ErrorInfo) (h : t.events.capture = s.events.capture) :
    (captureError i t).events.capture = (captureError i s).events.capture := by
  unfold captureError
  rw [h]
  cases s.events.capture <;> rfl

/-- A notice leaves the record and the counters. -/
theorem capture_notice (s : State) : (notice s).events.capture = s.events.capture := by
  rw [notice_frame]

theorem counters_notice (s : State) : (notice s).events.counters = s.events.counters := by
  rw [notice_frame]

theorem counters_captureError (i : ErrorInfo) (s : State) :
    (captureError i s).events.counters = s.events.counters := by
  rw [captureError_frame]

/-! ## The discard of the PWQ (R47) -/

/-- The discard of the PWQ finishes a drain: the queue held items, and every entry is FREE (R163, R168). -/
def State.discardFinishes (s : State) : Prop :=
  s.pwq.items ≠ [] ∧ s.bridge.state = .draining ∧ ∀ n : Fin 8, s.dtt.entry n = none

/-- The queue discarded and reported, before its notice. -/
def discarded (h : Item) (s : State) : State :=
  { captureError (itemError .rackDown h) (raise .drop (bump .dropped s.pwq.items.length s)) with
    pwq := { s.pwq with items := [] } }

theorem discardQueue_eq_notice {s : State} {h : Item} {tl : List Item} (hitems : s.pwq.items = h :: tl) :
    discardQueue s = notice (discarded h s) := discardQueue_of_cons hitems

theorem discarded_eq (h : Item) (s : State) :
    discarded h s = { s with
      pwq := { s.pwq with items := [] }
      events := { s.events with
        edges := (discarded h s).events.edges, capture := (discarded h s).events.capture
        counters := s.events.counters.put .dropped (saturate s.events.counters.dropped s.pwq.items.length) } } := by
  unfold discarded
  rw [captureError_frame]
  rfl

section Discard

variable {s : State}

/-- The notice after the discard finds the drain condition where every entry is FREE. -/
theorem discarded_finishes_iff {h : Item} {tl : List Item} (hitems : s.pwq.items = h :: tl) :
    ((discarded h s).bridge.state = .draining ∧ (discarded h s).drainCondition = true) ↔ s.discardFinishes := by
  rw [drainCondition_iff, discarded_eq, State.discardFinishes, hitems]
  simp [Dtt.entry]

theorem discardQueue_frame (s : State) :
    discardQueue s = { s with
      pwq := { s.pwq with items := [] }
      bridge := { s.bridge with state := (discardQueue s).bridge.state }
      events := { s.events with
        edges := (discardQueue s).events.edges, capture := (discardQueue s).events.capture
        counters := (discardQueue s).events.counters } } := by
  cases hitems : s.pwq.items with
  | nil => rw [discardQueue_of_nil hitems, ← hitems]
  | cons h tl => rw [discardQueue_eq_notice hitems, notice_frame, discarded_eq]

theorem counters_discardQueue (s : State) :
    (discardQueue s).events.counters =
      { s.events.counters with
        dropped :=
          if s.pwq.items = [] then s.events.counters.dropped
          else min (s.events.counters.dropped + s.pwq.items.length) 65535 } := by
  cases hitems : s.pwq.items with
  | nil => rw [discardQueue_of_nil hitems, if_pos rfl]
  | cons h tl =>
    rw [discardQueue_eq_notice hitems, counters_notice, discarded_eq, if_neg (List.cons_ne_nil _ _), hitems]
    rfl

theorem capture_discardQueue {h : Item} {tl : List Item} (hitems : s.pwq.items = h :: tl) :
    (discardQueue s).events.capture = (captureError (itemError .rackDown h) s).events.capture := by
  rw [discardQueue_eq_notice hitems, capture_notice]
  exact capture_captureError_congr _ rfl

theorem isPending_discardQueue (s : State) (v : Event) :
    (discardQueue s).isPending v = true ↔
      s.isPending v = true ∨ (v = .drop ∧ s.pwq.items ≠ []) ∨
        (v = .error ∧ s.pwq.items ≠ [] ∧ s.events.capture = none) ∨ (v = .drained ∧ s.discardFinishes) := by
  cases hitems : s.pwq.items with
  | nil =>
    rw [discardQueue_of_nil hitems, State.discardFinishes, hitems]
    simp
  | cons h tl =>
    have hreported : (discarded h s).isPending v = true ↔
        (s.isPending v = true ∨ v = .drop) ∨ (v = .error ∧ s.events.capture = none) := by
      have hcounted : (bump .dropped s.pwq.items.length s).isPending v = s.isPending v := isPending_congr rfl rfl v
      rw [← hcounted, ← isPending_raise (by decide)]
      exact isPending_captureError _ _ v
    rw [discardQueue_eq_notice hitems, isPending_notice, hreported, discarded_finishes_iff hitems]
    simp [or_assoc]

theorem bridge_discardQueue (s : State) :
    (s.discardFinishes → (discardQueue s).bridge.state = .drained) ∧
      (¬ s.discardFinishes → (discardQueue s).bridge.state = s.bridge.state) := by
  cases hitems : s.pwq.items with
  | nil =>
    rw [discardQueue_of_nil hitems]
    exact ⟨fun ⟨hposted, _⟩ => absurd hitems hposted, fun _ => rfl⟩
  | cons h tl =>
    have hsame : (discarded h s).bridge.state = s.bridge.state := by rw [discarded_eq]
    rw [discardQueue_eq_notice hitems, ← discarded_finishes_iff hitems]
    obtain ⟨hdraining, hempty, heq⟩ | ⟨hno, heq⟩ := notice_cases (discarded h s) <;> rw [heq]
    · exact ⟨fun _ => rfl, fun hno => absurd ⟨hdraining, hempty⟩ hno⟩
    · exact ⟨fun hyes => absurd hyes hno, fun _ => hsame⟩

end Discard

/-! ## RRST asserted (R106) -/

theorem exec_rrstAssert (s : State) :
    exec .rrstAssert s =
      .next (if s.lines.crst || s.lines.rrst then setRrst true s.quiet else enterDown (setRrst true s.quiet)) := rfl

/-- An entry of the DTT at DOWN (R23). -/
theorem entry_downed (s : State) (n : Fin 8) :
    (downed s).dtt.entry n = (s.dtt.entry n).map (Entry.rackDown s.dtt.discardTime) :=
  get_mapEntries _ _ n

/-- What becomes of an entry at DOWN, its discard timer started by the code the DTT holds. -/
theorem rackDown_eq (s : State) :
    Entry.rackDown s.dtt.discardTime =
      fun e => if e.isComplete = true then e else { e with phase := .complete .rackDown s.freshDiscard } := by
  funext e
  obtain ⟨hcomplete, h⟩ | ⟨hopen, h⟩ := rackDown_cases s.dtt.discardTime e
  · rw [h, if_pos hcomplete]
  · rw [h, if_neg (by simp [hopen])]
    rfl

/-- Settles O58: the entry into DOWN discards the PWQ of the state whose entries it has completed. -/
theorem rackResetEntersDown : Obligations.RackResetEntersDown := by
  refine ⟨fun s hlive hreleased => ?_, fun s hlive hasserted => ?_⟩
  · have hexec : exec .rrstAssert s = .next (raise .rackDown (discardQueue (downed (setRrst true s.quiet)))) := by
      have hcrst : s.lines.crst = false := hlive
      rw [exec_rrstAssert, hcrst, hreleased]
      rfl
    have hfinishes : (downed (setRrst true s.quiet)).discardFinishes ↔ s.discardFinishes := by
      simp only [State.discardFinishes, entry_downed, Option.map_eq_none_iff]
      exact Iff.rfl
    obtain ⟨hdrained, hkept⟩ := bridge_discardQueue (downed (setRrst true s.quiet))
    refine ⟨_, hexec, fun n => ?_, ?_, fun hitems => ?_, fun h tl hitems => ?_, fun v => ?_,
      fun h => hdrained (hfinishes.2 h), fun h => hkept (mt hfinishes.1 h), ?_⟩
    · rw [raise_dtt, discardQueue_frame]
      exact (entry_downed (setRrst true s.quiet) n).trans (congrArg (Option.map · _) (rackDown_eq s))
    · exact counters_discardQueue _
    · have hsame := discardQueue_of_nil (s := downed (setRrst true s.quiet)) hitems
      show (discardQueue (downed (setRrst true s.quiet))).events.capture = _
      rw [hsame]
      rfl
    · refine (capture_discardQueue (s := downed (setRrst true s.quiet)) hitems).trans ?_
      exact capture_captureError_congr (s := s) _ rfl
    · rw [isPending_raise (by decide), isPending_discardQueue, hfinishes, or_right_comm, or_assoc]
      exact Iff.rfl
    · rw [discardQueue_frame]
      rfl
  · rw [exec_rrstAssert, hasserted, Bool.or_true, if_pos rfl, setRrst, ← hasserted]
    rfl

end Sys2Proof.Machine
end

section
/-! SUPPORT. The queue of commands, accesses that reach no register, and register writes, each with the state that it leaves. -/

namespace Sys2Proof.Machine

/-! ## The queue of commands -/

/-- Settles O1: the two equations of `step`. -/
theorem stepRunsTheFrontCommand : Obligations.StepRunsTheFrontCommand := by
  refine ⟨fun c rest s hpending => ?_, fun s hpending => ?_⟩ <;> rw [step, hpending]

/-! ## Accesses under CRST and with both selects (R71, R74) -/

/-- Settles O11: every access and every register write goes through the local port, which answers RETRY under CRST. -/
theorem everyAccessUnderCardResetIsAnsweredRetry : Obligations.EveryAccessUnderCardResetIsAnsweredRetry := by
  refine ⟨fun c s hcrst haccess => ?_, fun p s hcrst => localStep_crst _ hcrst⟩
  cases c with
  | windowSelectAccess | bothSelectsAccess | accessDuringCardReset | malformedRegisterAccess | registerWrite =>
    exact localStep_crst _ hcrst
  | enterDrained | issue | cellReception | responseTimerExpiry | deferralExpiry | discardExpiry | timeBaseTick
  | cardReset | crstRelease | rrstAssert | rrstRelease => exact absurd haccess Bool.false_ne_true
  | _ => exact registerStep_crst _ hcrst

/-- Settles O12: with CRST released the local port answers both selects with FAULT. -/
theorem bothSelectsAnsweredFault : Obligations.BothSelectsAnsweredFault :=
  fun a _ hlive => localStep_live (presented (.both a)) hlive

/-! ## Register writes by offset (R84) -/

/-- A well-formed register WRITE is the write of the register at its offset. -/
theorem exec_registerWrite_of_offset {a : RegAccess} {s : State} {r : Reg} (hsize : a.size = 4)
    (haligned : a.address.toNat % 4 = 0) (hwrite : a.kind = .write) (hreg : Reg.ofOffset a.offset = some r) :
    exec (.registerWrite a) s = registerStep (writeReg r a.word) s := by
  have hwf : a.wellFormed = true := (regAccess_wellFormed_iff a).2 ⟨by simp [hwrite], hsize, haligned⟩
  rw [exec_registerWrite, localStep, registerSelect_of_write hwf hwrite, writeOffset, hreg]
  cases hcrst : s.lines.crst with
  | false => exact (registerStep_live _ hcrst).symm
  | true => exact (registerStep_crst _ hcrst).symm

/-- Register writes with one effect are one step. -/
theorem registerStep_congr {f g : State → State} {s : State} (h : f s = g s) : registerStep f s = registerStep g s := by
  rw [registerStep, h, registerStep]

/-- What the bridge command of a code does (R159). -/
def bridgeEffect (code : BitVec 4) (s : State) : State :=
  match code.toNat with
  | 1 => startOp s
  | 2 => drainOp s
  | 3 => purgeOp s
  | 4 => stopOp s
  | 5 => goOp s
  | 6 => pauseOp s
  | _ => s

theorem bridgeCommandWrite_eq (w : Word) (s : State) : bridgeCommandWrite w s = bridgeEffect (w.extractLsb' 0 4) s := rfl

/-- What the window command of a code does to the entry of an index (R62). -/
def windowEffect (code : BitVec 4) (n : BitVec 8) (s : State) : State :=
  match code.toNat with
  | 1 => windowCommand n commitEntry s
  | 2 => windowCommand n loadEntry s
  | 3 => windowCommand n disableEntry s
  | _ => s

theorem windowCommandWrite_eq (w : Word) (s : State) :
    windowCommandWrite w s = windowEffect (w.extractLsb' 0 4) (w.extractLsb' 8 8) s := rfl

/-- Settles O15: the write goes to the register at the offset, whose effect is that of its row; a command register's effect
is that of the command its code names. -/
theorem registerWriteDoesWhatItsRowDoes : Obligations.RegisterWriteDoesWhatItsRowDoes := by
  intro a s hsize haligned hwrite
  have hexec {r : Reg} (hreg : Reg.ofOffset a.offset = some r) :
      exec (.registerWrite a) s = registerStep (writeReg r a.word) s :=
    exec_registerWrite_of_offset hsize haligned hwrite hreg
  refine ⟨hexec, hexec, hexec, hexec, hexec, hexec, fun _ => hexec, fun _ => hexec, hexec, fun _ => hexec, hexec, hexec,
    hexec, hexec, fun hreg => ?bridge, fun hreg => ?window⟩
  case bridge =>
    have hcommand {k : BitVec 4} (hcode : a.word.extractLsb' 0 4 = k) :
        exec (.registerWrite a) s = registerStep (bridgeEffect k) s :=
      (hexec hreg).trans (registerStep_congr (hcode ▸ bridgeCommandWrite_eq a.word s))
    exact ⟨hcommand, hcommand, hcommand, hcommand, hcommand, hcommand⟩
  case window =>
    have hcommand {k : BitVec 4} (hcode : a.word.extractLsb' 0 4 = k) :
        exec (.registerWrite a) s = registerStep (windowEffect k (a.word.extractLsb' 8 8)) s :=
      (hexec hreg).trans (registerStep_congr (hcode ▸ windowCommandWrite_eq a.word s))
    exact ⟨hcommand, hcommand, hcommand⟩

/-! ## Bridge and port commands, and the notice (R109, R110, R161, R163) -/

/-- Settles O23: START sets the bridge state alone. -/
theorem startEntersRunning : Obligations.StartEntersRunning :=
  fun _ hlive => registerStep_live startOp hlive

/-- Settles O27: both commands look at the port state alone. -/
theorem goAndPauseMoveThePort : Obligations.GoAndPauseMoveThePort := by
  intro s hlive
  have hgo : exec .go s = .next ((goOp s).reply (.done .nothing)) := registerStep_live goOp hlive
  have hpause : exec .pause s = .next ((pauseOp s).reply (.done .nothing)) := registerStep_live pauseOp hlive
  rw [hgo, hpause, goOp, pauseOp]
  cases s.rack.state with
  | down => exact ⟨fun hup => absurd rfl hup, fun _ => ⟨rfl, rfl⟩⟩
  | paused | online => exact ⟨fun _ => ⟨rfl, rfl⟩, fun hdown => nomatch hdown⟩

/-- Settles O28: the notice finishes a drain exactly under the drain condition in DRAINING. -/
theorem noticeFinishesADrain : Obligations.NoticeFinishesADrain := by
  intro s hlive
  have hexec : exec .enterDrained s = .next (notice s.quiet) := blockStep_live notice hlive
  rw [hexec]
  obtain ⟨hdraining, hempty, heq⟩ | ⟨hno, heq⟩ := notice_cases s.quiet
  · obtain ⟨hfree, hitems⟩ := (drainCondition_iff s.quiet).1 hempty
    rw [heq]
    refine ⟨fun _ _ _ => rfl, fun hbusy => ?_⟩
    obtain hother | ⟨n, hn⟩ | hposted := hbusy
    · exact absurd hdraining hother
    · exact absurd hn (by simp [show s.dtt.entry n = none from hfree n])
    · exact absurd hitems hposted
  · rw [heq]
    exact ⟨fun hdraining hfree hitems => absurd ⟨hdraining, (drainCondition_iff s.quiet).2 ⟨hfree, hitems⟩⟩ hno,
      fun _ => rfl⟩

/-! ## Window commands (R65, R66) -/

/-- Settles O30: an index up to 15 reaches the entry. -/
theorem loadCopiesAndDisableKeepsFields : Obligations.LoadCopiesAndDisableKeepsFields :=
  fun _ _ hn hlive => ⟨windowCommand_live_of_lt loadEntry hlive hn, windowCommand_live_of_lt disableEntry hlive hn⟩

/-! ## The compose buffer, the IMQ and the settings (R37, R40, R147, R185) -/

/-- Settles O33: each register sets its own field. -/
theorem composeAndRetryWritesSetTheirFields : Obligations.ComposeAndRetryWritesSetTheirFields :=
  fun _ w hlive => ⟨registerStep_live (composeWriteOp .destination w) hlive,
    registerStep_live (composeWriteOp .length w) hlive, fun k => registerStep_live (composeWriteOp (.payload k) w) hlive,
    registerStep_live (msgRetryWriteOp w) hlive⟩

/-- POP by what the queue holds. -/
theorem popOp_of_nil {s : State} (h : s.imq.messages = []) :
    popOp s = { s with imq := { s.imq with status := .empty } } := by
  rw [popOp, h]

theorem popOp_of_cons {s : State} {m : Message} {rest : List Message} (h : s.imq.messages = m :: rest) :
    popOp s =
      { s with imq := { s.imq.withCount m.sender (s.imq.count m.sender - 1) with messages := rest, status := .ok } } := by
  rw [popOp, h]

/-- A test of a bit vector against 0 is a test of its number. -/
theorem ite_eq_zero_toNat {n : Nat} {α : Type} (b : BitVec n) (x y : α) :
    (if b = 0 then x else y) = if b.toNat = 0 then x else y := by
  have hiff : b = 0 ↔ b.toNat = 0 := by
    rw [← BitVec.toNat_inj]
    rfl
  simp only [hiff]

/-- Settles O35: POP by cases on the queue, and the control write with its clamped quota. -/
theorem popRemovesTheHead : Obligations.PopRemovesTheHead := by
  refine ⟨fun s m rest hlive hmessages => ?_, fun s hlive hmessages => ?_, fun s w hlive => ?_⟩
  · have hexec : exec .pop s = _ := registerStep_live popOp hlive
    rw [hexec, popOp_of_cons hmessages]
    rfl
  · have hexec : exec .pop s = _ := registerStep_live popOp hlive
    rw [hexec, popOp_of_nil hmessages]
    rfl
  · have hexec : exec (.imqControlWrite w) s = _ := registerStep_live (imqControlWriteOp w) hlive
    rw [hexec, imqControlWriteOp, takeQuota, ite_eq_zero_toNat]
    rfl

/-- Settles O40: each write takes the nearest legal value and touches its setting alone. -/
theorem settingsTakeTheNearestLegalValue : Obligations.SettingsTakeTheNearestLegalValue := by
  intro s w hlive
  refine ⟨?cap, registerStep_live (respTimeoutWriteOp w) hlive, ?discard, registerStep_live (timebaseWriteOp w) hlive⟩
  case cap =>
    have hexec : exec (.issueCapWrite w) s = _ := registerStep_live (issueCapWriteOp w) hlive
    rw [hexec, issueCapWriteOp, takeIssueCap, ite_eq_zero_toNat]
    rfl
  case discard =>
    have hexec : exec (.discardTimeWrite w) s = _ := registerStep_live (discardTimeWriteOp w) hlive
    rw [hexec, discardTimeWriteOp, takeDiscardTime, ite_eq_zero_toNat]
    simp only [Nat.lt_succ_iff (n := 5)]
    rfl

/-! ## The event unit (R178, R179, R182) -/

/-- Settles O36: the capture by what the record holds. -/
theorem errorCaptureKeepsTheFirst : Obligations.ErrorCaptureKeepsTheFirst := by
  refine ⟨fun s i hempty => ?_, fun s i h hheld => ?_, fun s hlive => registerStep_live clearCapture hlive⟩
  · rw [captureError, hempty]
    rfl
  · rw [captureError, hheld]
    rfl

/-- Settles O39: the counter written is put to 0, and every other is read as before. -/
theorem counterWriteClearsThatCounter : Obligations.CounterWriteClearsThatCounter := by
  intro s c hlive
  refine ⟨_, registerStep_live (clearCounter c) hlive, fun d => ?_, rfl⟩
  show (s.events.counters.put c 0).get d = _
  rw [get_put]
  simp only [eq_comm]

end Sys2Proof.Machine
end

section
/-! The register map, what its words show, and the staging words. -/

namespace Sys2Proof.Machine

/-! ## The map (R84, R184) -/

/-- Every register stands on the map. -/
theorem mem_all (r : Reg) : r ∈ Reg.all := by
  cases r with
  | counter c => cases c <;> decide
  | staging f => cases f <;> decide
  | dttView n => exact (by decide : ∀ n : Fin 8, Reg.dttView n ∈ Reg.all) n
  | imqPayload k => exact (by decide : ∀ k : Fin 8, Reg.imqPayload k ∈ Reg.all) k
  | compose f =>
    cases f with
    | payload k => exact (by decide : ∀ k : Fin 8, Reg.compose (.payload k) ∈ Reg.all) k
    | _ => decide
  | _ => decide

/-- The registers of the map stand at aligned offsets of the window, each at its own. -/
theorem offset_of_mem_all : ∀ r ∈ Reg.all,
    r.offset % 4 = 0 ∧ r.offset < 4096 ∧ Reg.ofOffset (BitVec.ofNat 12 r.offset) = some r := by
  decide

/-- Settles O2: the map by cases on the registers, and an offset of none of them finds none. -/
theorem everyRegisterStandsAtItsOffset : Obligations.EveryRegisterStandsAtItsOffset := by
  refine ⟨fun r => ?_, fun r => offset_of_mem_all r (mem_all r), fun off hnone => ?_⟩
  · cases r with
    | counter c => cases c <;> rfl
    | staging f => cases f <;> rfl
    | compose f => cases f <;> rfl
    | _ => rfl
  · refine List.find?_eq_none.2 fun r _ => ?_
    simpa using hnone r

end Sys2Proof.Machine
end

section
/-! The words of the registers: what each shows, the accesses that change nothing, and the staging words. -/

namespace Sys2Proof.Machine

/-! ## Accesses without effect (R84) -/

/-- A well-formed register READ is answered with the word at its offset. -/
theorem exec_registerWrite_read {a : RegAccess} {s : State} (hlive : s.live) (hsize : a.size = 4)
    (haligned : a.address.toNat % 4 = 0) (hread : a.kind = .read) :
    exec (.registerWrite a) s =
      .next { s with answer := some (.done (.word (readOffset a.offset s))), sent := none } := by
  have hwf : a.wellFormed = true := (regAccess_wellFormed_iff a).2 ⟨by simp [hread], hsize, haligned⟩
  rw [exec_registerWrite, localStep_live _ hlive, registerSelect_of_read hwf hread]
  rfl

/-- A write to an offset with no register is answered DONE and has no effect. -/
theorem exec_registerWrite_unassigned {a : RegAccess} {s : State} (hlive : s.live) (hsize : a.size = 4)
    (haligned : a.address.toNat % 4 = 0) (hwrite : a.kind = .write) (hnone : Reg.ofOffset a.offset = none) :
    exec (.registerWrite a) s = .next (s.reply (.done .nothing)) := by
  have hwf : a.wellFormed = true := (regAccess_wellFormed_iff a).2 ⟨by simp [hwrite], hsize, haligned⟩
  rw [exec_registerWrite, localStep_live _ hlive, registerSelect_of_write hwf hwrite, writeOffset, hnone]

/-- A write to a read-only register changes nothing (R184). -/
theorem writeReg_readOnly {r : Reg} (hclass : r.accessClass = .readOnly) (w : Word) (s : State) : writeReg r w s = s := by
  cases r with
  | identification | portWord | bridgeStatus | windowStatus | dttView | captureKind | captureLocal | captureTarget
  | captureWindow | captureOverflow | sendStatus | imqHeader | imqPayload | imqStatus => rfl
  | _ => exact AccessClass.noConfusion hclass

/-- A code that names no command has no effect (R62, R159). -/
theorem bridgeEffect_of_none {code : BitVec 4} (h : code = 0 ∨ 6 < code.toNat) (s : State) : bridgeEffect code s = s := by
  obtain rfl | h := h
  · rfl
  · unfold bridgeEffect
    split
    case h_7 => rfl
    all_goals omega

theorem windowEffect_of_none {code : BitVec 4} (h : code = 0 ∨ 3 < code.toNat) (n : BitVec 8) (s : State) :
    windowEffect code n s = s := by
  obtain rfl | h := h
  · rfl
  · unfold windowEffect
    split
    case h_4 => rfl
    all_goals omega

/-! ## Words of fields -/

/-- A field that holds a bit vector alone shows it. -/
theorem fields_toNat {n : Nat} (b : BitVec n) : fields [(0, b.toNat)] = b.setWidth 32 := by
  rw [fields_single, BitVec.ofNat_toNat]

/-- An optional field shows 0 when it is absent. -/
theorem orZero_toNat {n : Nat} (o : Option (BitVec n)) : orZero (o.map BitVec.toNat) = (o.getD 0).toNat := by
  cases o with
  | none => simp [orZero]
  | some b => rfl

theorem orZero_val {n : Nat} [NeZero n] (o : Option (Fin n)) : orZero (o.map Fin.val) = (o.getD 0).val := by
  cases o <;> rfl

/-- An address field shows the address. -/
theorem fields_address (o : Option Addr) : fields [(0, orZero (o.map BitVec.toNat))] = o.getD 0 := by
  rw [orZero_toNat, fields_toNat, BitVec.setWidth_eq]

/-- The number of two bit vectors put together. -/
theorem toNat_append_eq {m n : Nat} (x : BitVec m) (y : BitVec n) : (x ++ y).toNat = x.toNat * 2 ^ n + y.toNat := by
  rw [BitVec.toNat_append, Nat.shiftLeft_eq, Nat.mul_comm, Nat.two_pow_add_eq_or_of_lt y.isLt]

/-- The word of four bytes as their sum, each at its place (R194). -/
theorem wordOfBytes_eq (b0 b1 b2 b3 : Byte) :
    wordOfBytes b0 b1 b2 b3 =
      BitVec.ofNat 32 (b0.toNat * 2 ^ 24 + b1.toNat * 2 ^ 16 + b2.toNat * 2 ^ 8 + b3.toNat) := by
  apply BitVec.eq_of_toNat_eq
  rw [wordOfBytes, toNat_append_eq, toNat_append_eq, toNat_append_eq, BitVec.toNat_ofNat, Nat.mod_eq_of_lt]
  · ring
  · have h0 := b0.isLt
    have h1 := b1.isLt
    have h2 := b2.isLt
    have h3 := b3.isLt
    omega

/-- A payload word shows its four bytes; those beyond the length are 0 (R153). -/
theorem payloadWord_eq (p : List Byte) (k : Nat) :
    payloadWord p k = wordOfBytes (p.getD (4 * k) 0) (p.getD (4 * k + 1) 0) (p.getD (4 * k + 2) 0)
      (p.getD (4 * k + 3) 0) := by
  unfold payloadWord
  split
  next hbeyond =>
    have hzero (i : Nat) : p.getD (4 * k + i) 0 = 0 := List.getD_eq_default _ _ (by omega)
    rw [hzero 1, hzero 2, hzero 3, show p.getD (4 * k) 0 = 0 from hzero 0]
    rfl
  next => rfl

/-! ## The words of the registers -/

section Words

variable (s : State)

theorem portWord_eq : portWord s = BitVec.ofNat 32 (s.rack.ownSlot.toNat + s.rack.state.code * 2 ^ 8) := by
  simp only [portWord, fields_cons, fields_nil, BitVec.ofNat_add, pow_zero, mul_one, add_zero]

theorem bridgeStatusWord_eq :
    bridgeStatusWord s =
      BitVec.ofNat 32 (s.bridge.state.code + s.bridge.commandStatus.code * 2 ^ 4 +
        eight.countP (fun n => (s.dtt.entry n).isSome) * 2 ^ 8 + s.pwq.items.length * 2 ^ 16 +
        s.imq.messages.length * 2 ^ 24) := by
  simp only [bridgeStatusWord, occupancy_eq_countP, fields_cons, fields_nil, BitVec.ofNat_add, pow_zero, mul_one, add_zero,
    add_assoc]

theorem dttViewWord_some (e : Entry) :
    dttViewWord (some e) =
      BitVec.ofNat 32 (e.phase.code + e.requester.toNat * 2 ^ 4 + e.kind.code * 2 ^ 8 + e.window.val * 2 ^ 12 +
        e.attempts * 2 ^ 16 + e.phase.resultCode * 2 ^ 24) := by
  simp only [dttViewWord, fields_cons, fields_nil, BitVec.ofNat_add, pow_zero, mul_one, add_zero, add_assoc]

theorem captureKindWord_eq (i : ErrorInfo) :
    captureKindWord i =
      BitVec.ofNat 32 (1 + i.kind.code * 2 ^ 4 + i.source.code * 2 ^ 8 + i.source.entryNumber * 2 ^ 12 +
        (i.requester.getD 0).toNat * 2 ^ 16 + bitOf i.requester.isSome * 2 ^ 24 + bitOf i.address.isSome * 2 ^ 25 +
        bitOf i.window.isSome * 2 ^ 26 + bitOf i.slot.isSome * 2 ^ 27 + bitOf i.targetAddr.isSome * 2 ^ 28) := by
  simp only [captureKindWord, orZero_toNat, fields_cons, fields_nil, BitVec.ofNat_add, pow_zero, mul_one, add_zero,
    add_assoc]

theorem imqHeaderWord_cons {m : Message} {rest : List Message} (h : s.imq.messages = m :: rest) :
    imqHeaderWord s.imq =
      BitVec.ofNat 32 (m.sequence.toNat + m.payload.length * 2 ^ 8 + m.sender.toNat * 2 ^ 16) := by
  simp only [imqHeaderWord, h, fields_cons, fields_nil, BitVec.ofNat_add, pow_zero, mul_one, add_zero, add_assoc]

/-- A word of the error capture reads 0 when the record is empty, and else as the record has it (R176). -/
theorem captureView_none {word : Held → Word} (h : s.events.capture = none) : captureView s word = 0 := by
  rw [captureView, h]

theorem captureView_some {word : Held → Word} {h : Held} (hheld : s.events.capture = some h) :
    captureView s word = word h := by
  rw [captureView, hheld]

end Words

/-- The payload words of the head show the bytes of the oldest message (R153). -/
theorem imqPayloadWord_eq (q : Imq) (k : Fin 8) :
    imqPayloadWord q k = (match q.messages with
      | [] => 0
      | m :: _ =>
        BitVec.ofNat 32 ((m.payload.getD (4 * k.val + 0) 0).toNat * 2 ^ 24 +
          (m.payload.getD (4 * k.val + 1) 0).toNat * 2 ^ 16 + (m.payload.getD (4 * k.val + 2) 0).toNat * 2 ^ 8 +
          (m.payload.getD (4 * k.val + 3) 0).toNat)) := by
  unfold imqPayloadWord
  cases q.messages with
  | nil => rfl
  | cons m rest => exact (payloadWord_eq m.payload k.val).trans (wordOfBytes_eq _ _ _ _)

/-- The result field of an entry by its phase (R190). -/
theorem resultCode_eq (p : Phase) :
    p.resultCode = (match p with
      | .complete (.ok _) _ => 1
      | .complete .rejected _ => 2
      | .complete .noAnswer _ => 3
      | .complete .exhausted _ => 4
      | .complete .malformed _ => 5
      | .complete .rackDown _ => 6
      | _ => 0) := by
  cases p with
  | complete r d => cases r <;> rfl
  | _ => rfl

/-- What a write that names nothing leaves: the state with its answer (R84, R184). -/
theorem exec_registerWrite_ignored {a : RegAccess} {s : State} (hlive : s.live) (hsize : a.size = 4)
    (haligned : a.address.toNat % 4 = 0) (hwrite : a.kind = .write)
    (hignored : Reg.ofOffset a.offset = none ∨ (Reg.ofOffset a.offset).map Reg.accessClass = some .readOnly ∨
      (Reg.ofOffset a.offset = some .bridgeCommand ∧
        (a.word.extractLsb' 0 4 = 0 ∨ 6 < (a.word.extractLsb' 0 4).toNat)) ∨
      (Reg.ofOffset a.offset = some .windowCommand ∧
        (a.word.extractLsb' 0 4 = 0 ∨ 3 < (a.word.extractLsb' 0 4).toNat))) :
    exec (.registerWrite a) s = .next (s.reply (.done .nothing)) := by
  have hexec {r : Reg} (hreg : Reg.ofOffset a.offset = some r) (hsame : writeReg r a.word s = s) :
      exec (.registerWrite a) s = .next (s.reply (.done .nothing)) := by
    rw [exec_registerWrite_of_offset hsize haligned hwrite hreg, registerStep_live _ hlive, hsame]
  obtain hnone | hclass | ⟨hreg, hcode⟩ | ⟨hreg, hcode⟩ := hignored
  · exact exec_registerWrite_unassigned hlive hsize haligned hwrite hnone
  · obtain ⟨r, hreg, hclass⟩ := Option.map_eq_some_iff.1 hclass
    exact hexec hreg (writeReg_readOnly hclass _ s)
  · exact hexec hreg (bridgeEffect_of_none hcode s)
  · exact hexec hreg (windowEffect_of_none hcode _ s)

/-- Settles O14: reads go through the views, whose words are given above field by field, and ignored writes change
nothing. -/
theorem registerReadsShowTheirWordsAndIgnoredWritesChangeNothing :
    Obligations.RegisterReadsShowTheirWordsAndIgnoredWritesChangeNothing := by
  refine ⟨fun a s hlive hsize haligned => ⟨fun hread => ⟨fun r hreg => ?_, fun hnone => ?_⟩, fun hwrite hignored =>
    exec_registerWrite_ignored hlive hsize haligned hwrite hignored⟩, fun s => ?_⟩
  · rw [exec_registerWrite_read hlive hsize haligned hread, readOffset, hreg]
  · rw [exec_registerWrite_read hlive hsize haligned hread, readOffset, hnone]
  · refine ⟨rfl, portWord_eq s, bridgeStatusWord_eq s, ?commands, fields_toNat _, fields_toNat _, fields_toNat _,
      fields_toNat _, ?msgRetry, ?imqControl, ?counters, ?windowStatus, ?dttView, ?captureEmpty, ?captureHeld,
      fields_toNat _, fields_toNat _, fun k => rfl, ?sendStatus, ?imqHeader, fun k => imqPayloadWord_eq s.imq k,
      ?imqStatus⟩
    case commands => simp [readReg]
    case msgRetry => simp only [readReg, fields_cons, fields_nil, BitVec.ofNat_add, pow_zero, mul_one, add_zero]
    case imqControl =>
      have hword : readReg s .imqControl = BitVec.ofNat 32 (bitOf s.imq.enable + s.imq.quota.toNat * 2 ^ 8) := by
        simp only [readReg, fields_cons, fields_nil, BitVec.ofNat_add, pow_zero, mul_one, add_zero]
      exact hword
    case counters =>
      intro c
      cases c <;> exact fields_single _
    case windowStatus =>
      show fields [(0, s.windows.status.code)] = _
      cases s.windows.status <;> rfl
    case dttView =>
      intro n
      show dttViewWord (s.dtt.entry n) = _
      cases s.dtt.entry n with
      | none => rfl
      | some e =>
        rw [dttViewWord_some, resultCode_eq]
        rfl
    case captureEmpty =>
      intro r hr hempty
      simp only [List.mem_cons, List.not_mem_nil, or_false] at hr
      obtain rfl | rfl | rfl | rfl | rfl := hr <;> exact captureView_none s hempty
    case captureHeld =>
      intro h hheld
      simp only [readReg, captureView_some s hheld]
      refine ⟨captureKindWord_eq h.error, fields_address _, fields_address _, ?_, fields_single _⟩
      simp only [orZero_val, orZero_toNat, fields_cons, fields_nil, BitVec.ofNat_add, pow_zero, mul_one, add_zero]
    case sendStatus =>
      show fields [(0, s.compose.sendStatus.code)] = _
      cases s.compose.sendStatus <;> rfl
    case imqHeader =>
      show imqHeaderWord s.imq = _
      cases hmessages : s.imq.messages with
      | nil =>
        rw [imqHeaderWord, hmessages]
        rfl
      | cons m rest => exact imqHeaderWord_cons s hmessages
    case imqStatus =>
      show fields [(0, s.imq.status.code)] = _
      cases s.imq.status <;> rfl

end Sys2Proof.Machine
end

section
/-! The staging words: what a write sets, and what a read of the word shows afterwards. -/

namespace Sys2Proof.Machine

/-! ## Fields of a word under a mask -/

/-- A field of a word, at its place, is the word under the field's mask. -/
theorem ofNat_field (w : Word) (k n : Nat) :
    BitVec.ofNat 32 ((w.extractLsb' k n).toNat * 2 ^ k) = w &&& ((BitVec.allOnes n).setWidth 32 <<< k) := by
  apply BitVec.eq_of_getLsbD_eq
  intro i hi
  rw [BitVec.getLsbD_ofNat, Nat.testBit_mul_two_pow, BitVec.testBit_toNat, BitVec.getLsbD_extractLsb',
    BitVec.getLsbD_and, BitVec.getLsbD_shiftLeft, BitVec.getLsbD_setWidth, BitVec.getLsbD_allOnes]
  by_cases hk : k ≤ i
  · rw [Nat.add_sub_cancel' hk]
    simp [hi, hk, hk.not_gt, (Nat.sub_le i k).trans_lt hi, Bool.and_comm]
  · simp [hk, Nat.lt_of_not_le hk]

/-- A field at bit 0. -/
theorem ofNat_lowField (w : Word) (n : Nat) :
    BitVec.ofNat 32 (w.extractLsb' 0 n).toNat = w &&& (BitVec.allOnes n).setWidth 32 := by
  simpa using ofNat_field w 0 n

/-- The number of a bit is that of the field of the one bit. -/
theorem bitOf_getLsbD (w : Word) (k : Nat) : bitOf (w.getLsbD k) = (w.extractLsb' k 1).toNat := by
  have hfield : w.extractLsb' k 1 = BitVec.ofBool (w.getLsbD k) := by
    apply BitVec.eq_of_getLsbD_eq
    intro i hi
    obtain rfl : i = 0 := by omega
    simp
  rw [hfield]
  cases w.getLsbD k <;> rfl

/-- A word under two masks that share no bit. -/
theorem and_add_and (w : Word) {m m' : Word} (h : m &&& m' = 0) : (w &&& m) + (w &&& m') = w &&& (m ||| m') := by
  rw [BitVec.add_eq_or_of_and_eq_zero, BitVec.and_or_distrib_left]
  calc w &&& m &&& (w &&& m') = w &&& w &&& (m &&& m') := by ac_rfl
    _ = 0 := by rw [h]; exact BitVec.and_zero

/-- The write mode of a code as its table has it, and the code it is shown with (R61, R189). -/
theorem takeWriteMode_eq : ∀ c : BitVec 2,
    takeWriteMode c = (match c.toNat with
      | 0 => .posted
      | 1 => .confirmed
      | _ => .readOnly) := by
  decide

theorem takeWriteMode_code : ∀ c : BitVec 2, (takeWriteMode c).code = if c = 3 then 2 else c.toNat := by
  decide

/-- Bits 1 and 0 of a word are 3 exactly when its mode field is. -/
theorem and_three_eq_iff (w : Word) : w &&& 0x3 = 0x3 ↔ w.extractLsb' 0 2 = 3 := by
  have hfield : BitVec.ofNat 32 (w.extractLsb' 0 2).toNat = w &&& 0x3 := ofNat_lowField w 2
  rw [← hfield]
  generalize w.extractLsb' 0 2 = c
  revert c
  decide

/-- The attributes word read back. -/
theorem view_stage_attributes (g : Window) (w : Word) :
    (g.stage .attributes w).view .attributes =
      if w &&& 0x3 = 0x3 then (w &&& 0x00FF0F10) ||| 0x2 else w &&& 0x00FF0F13 := by
  have hmode : BitVec.ofNat 32 (takeWriteMode (w.extractLsb' 0 2)).code = if w &&& 0x3 = 0x3 then 0x2 else w &&& 0x3 := by
    rw [takeWriteMode_code]
    simp only [and_three_eq_iff]
    split
    · rfl
    · exact ofNat_lowField w 2
  have hrest : BitVec.ofNat 32 (bitOf (w.getLsbD 4) * 2 ^ 4) + (BitVec.ofNat 32 ((w.extractLsb' 8 4).toNat * 2 ^ 8) +
      BitVec.ofNat 32 ((w.extractLsb' 16 8).toNat * 2 ^ 16)) = w &&& 0x00FF0F10 := by
    rw [bitOf_getLsbD, ofNat_field, ofNat_field, ofNat_field, and_add_and _ (by decide), and_add_and _ (by decide)]
    rfl
  have hview : (g.stage .attributes w).view .attributes =
      BitVec.ofNat 32 (takeWriteMode (w.extractLsb' 0 2)).code + (w &&& 0x00FF0F10) := by
    rw [← hrest]
    simp only [Window.view, Window.stage, fields_cons, fields_nil, pow_zero, mul_one, add_zero]
  rw [hview, hmode]
  split
  · rw [BitVec.add_comm, BitVec.add_eq_or_of_and_eq_zero]
    exact (BitVec.and_assoc w _ _).trans BitVec.and_zero
  · exact and_add_and w (by decide)

/-- A staging word read back after its write (R61, R189). -/
theorem view_stage (g : Window) (f : StagingReg) (w : Word) :
    (g.stage f w).view f = (match f with
      | .enable => w &&& 0x1
      | .localBase => w
      | .sizeCode => w &&& 0x1F
      | .targetSlot => w &&& 0xF
      | .targetBase => w
      | .attributes => if w &&& 0x3 = 0x3 then (w &&& 0x00FF0F10) ||| 0x2 else w &&& 0x00FF0F13) := by
  cases f with
  | enable => exact (fields_single _).trans ((congrArg _ (bitOf_getLsbD w 0)).trans (ofNat_lowField w 1))
  | localBase | targetBase => rfl
  | sizeCode => exact (fields_single _).trans (ofNat_lowField w 5)
  | targetSlot => exact (fields_single _).trans (ofNat_lowField w 4)
  | attributes => exact view_stage_attributes g w

/-- Settles O31: the write sets the record, and the view shows the word under its mask. -/
theorem stagingWriteSetsExactlyItsWord : Obligations.StagingWriteSetsExactlyItsWord := by
  intro s w hlive
  have hexec (f : StagingReg) :
      exec (.stagingWrite f w) s = .next ((stagingWriteOp f w s).reply (.done .nothing)) :=
    registerStep_live (stagingWriteOp f w) hlive
  refine ⟨hexec _, hexec _, hexec _, hexec _, hexec _, ?_, fun f => ⟨_, hexec f, view_stage _ f w⟩⟩
  rw [hexec, stagingWriteOp, Window.stage, takeWriteMode_eq]
  rfl

end Sys2Proof.Machine
end

section
/-! The block's own steps: expiries of timers, ticks, refused requests, the releases of the reset lines and card reset. -/

namespace Sys2Proof.Machine

/-! ## Response timers (R97) -/

/-- A record's timer has run out where it is the origin's with no tick left. -/
theorem expired_iff (a : Arbiter) (o : Origin) : a.expired o = true ↔ ∃ r ∈ a.inFlight, r.origin = o ∧ r.left = 0 := by
  simp [Arbiter.expired]

theorem exec_responseTimerExpiry (o : Origin) {s : State} (hlive : s.live) :
    exec (.responseTimerExpiry o) s = .next (responseExpiryOp o s.quiet) := blockStep_live (responseExpiryOp o) hlive

/-- Settles O47: the timer of the origin's record decides. -/
theorem responseTimerExpiryGivesNoAnswer : Obligations.ResponseTimerExpiryGivesNoAnswer := by
  refine ⟨fun s o r hlive hr horigin hdue => ?_, fun s o hlive hrunning => ?_⟩
  · have hexpired : s.quiet.arbiter.expired o = true := (expired_iff _ _).2 ⟨r, hr, horigin, hdue⟩
    rw [exec_responseTimerExpiry o hlive, responseExpiryOp, if_pos hexpired]
    rfl
  · have hidle : ¬ s.quiet.arbiter.expired o = true := fun hexpired => by
      obtain ⟨r, hr, horigin, hdue⟩ := (expired_iff _ _).1 hexpired
      exact hrunning r hr horigin hdue
    rw [exec_responseTimerExpiry o hlive, responseExpiryOp, if_neg hidle]
    rfl

/-! ## Inbound requests (R121) -/

/-- Settles O49: a kept request whose code is not that of MESSAGE is answered with REJECT. -/
theorem inboundRequestsOtherThanMessagesAreRejected : Obligations.InboundRequestsOtherThanMessagesAreRejected := by
  intro f s hlive hkeeps htype hcode
  have hother : ¬ frameCode f = CellKind.message.code := hcode
  rw [exec_cellReception f hlive, receive_of_kept_request (s := s.quiet) hkeeps htype, inboundRequest, if_neg hother]
  rfl

/-! ## Deferral timers (R13, R33, R134) -/

theorem exec_deferralExpiry (o : Origin) {s : State} (hlive : s.live) :
    exec (.deferralExpiry o) s = .next (deferralExpiryOp o s.quiet) := blockStep_live (deferralExpiryOp o) hlive

/-- The expiry of an entry's deferral timer: due, the entry waits for the arbiter again; else nothing. -/
theorem deferralExpiryOp_entry_due {s : State} {n : Fin 8} {e : Entry} (hn : s.dtt.entry n = some e)
    (hdue : e.phase = .deferred 0) :
    deferralExpiryOp (.dtt n) s = join [.dtt n] (setEntry n (some { e with phase := .waiting 0 }) s) := by
  simp only [deferralExpiryOp, hn, if_pos hdue]

theorem deferralExpiryOp_entry_idle {s : State} {n : Fin 8} (h : (s.dtt.entry n).map Entry.phase ≠ some (.deferred 0)) :
    deferralExpiryOp (.dtt n) s = s := by
  cases hn : s.dtt.entry n with
  | none => simp only [deferralExpiryOp, hn]
  | some e =>
    have hrunning : ¬ e.phase = .deferred 0 := fun hdue => h (by rw [hn, Option.map_some, hdue])
    simp only [deferralExpiryOp, hn, if_neg hrunning]

/-- The expiry of the head's deferral timer, likewise. -/
theorem deferralExpiryOp_head_due {s : State} {h : Item} {tl : List Item} (hitems : s.pwq.items = h :: tl)
    (hdue : h.cond = .deferred 0) :
    deferralExpiryOp .posted s = join [.posted] (setHead { h with cond := .ready } s) := by
  simp only [deferralExpiryOp, hitems, if_pos hdue]

theorem deferralExpiryOp_head_idle {s : State} (h : s.pwq.items.head?.map Item.cond ≠ some (.deferred 0)) :
    deferralExpiryOp .posted s = s := by
  cases hitems : s.pwq.items with
  | nil => simp only [deferralExpiryOp, hitems]
  | cons i tl =>
    have hrunning : ¬ i.cond = .deferred 0 := fun hdue => h (by rw [hitems, List.head?_cons, Option.map_some, hdue])
    simp only [deferralExpiryOp, hitems, if_neg hrunning]

/-- Settles O55: the timer of the entry or of the head decides. -/
theorem deferralExpiryRejoinsTheReadyList : Obligations.DeferralExpiryRejoinsTheReadyList := by
  refine ⟨fun s n e hlive hn hdue => ?_, fun s h tl hlive hitems hdue => ?_, fun s n hlive hidle => ?_,
    fun s hlive hidle => ?_⟩ <;> rw [exec_deferralExpiry _ hlive]
  · rw [deferralExpiryOp_entry_due (s := s.quiet) hn hdue]
    rfl
  · rw [deferralExpiryOp_head_due (s := s.quiet) hitems hdue]
    simp only [join, setHead, State.quiet, hitems]
    rfl
  · rw [deferralExpiryOp_entry_idle (s := s.quiet) hidle]
    rfl
  · rw [deferralExpiryOp_head_idle (s := s.quiet) hidle]
    rfl

/-! ## Discard timers (R21) -/

theorem exec_discardExpiry (n : Fin 8) {s : State} (hlive : s.live) :
    exec (.discardExpiry n) s = .next (discardExpiryOp n s.quiet) := blockStep_live (discardExpiryOp n) hlive

/-- The expiry of a discard timer: due, the entry is freed and reported; else nothing. -/
theorem discardExpiryOp_due {s : State} {n : Fin 8} {e : Entry} {r : TxnResult} (hn : s.dtt.entry n = some e)
    (hdue : e.phase = .complete r (some 0)) :
    discardExpiryOp n s = notice (reportLoss n e r (raise .discard (bump .discarded 1 (freeEntry n s)))) := by
  simp only [discardExpiryOp, hn, hdue]

theorem discardExpiryOp_idle {s : State} {n : Fin 8} (h : ∀ e ∈ s.dtt.entry n, ∀ r, e.phase ≠ .complete r (some 0)) :
    discardExpiryOp n s = s := by
  unfold discardExpiryOp
  split
  next e hn =>
    split
    next r hdue => exact absurd hdue (h e hn r)
    next => rfl
  next => rfl

/-- A result is lost that is OK and not of a READ. -/
theorem losesResult_iff (k : TxnKind) (r : TxnResult) : losesResult k r = true ↔ (∃ data, r = .ok data) ∧ k ≠ .read := by
  cases r <;> cases k <;> simp [losesResult]

/-- Two events raised at once. -/
theorem raise_raise (e f : Event) (s : State) :
    raise f (raise e s) = { s with events := { s.events with edges := s.events.edges ||| (e.mask ||| f.mask) } } := by
  simp only [raise, BitVec.or_assoc]

/-- Settles O56: the timer decides, and the result and the kind decide on the loss. -/
theorem discardExpiryFreesTheEntry : Obligations.DiscardExpiryFreesTheEntry := by
  refine ⟨?due, fun s n hlive hidle => ?idle⟩
  case due =>
    intro s n e r hlive hn hdue freed
    rw [exec_discardExpiry n hlive, discardExpiryOp_due (s := s.quiet) hn hdue, reportLoss]
    refine ⟨fun hok hkind => ?_, fun hkept => ?_⟩
    · rw [if_pos ((losesResult_iff _ _).2 ⟨hok, hkind⟩), raise_raise]
      rfl
    · have hno : ¬ losesResult e.kind r = true := fun hlost => by
        obtain ⟨⟨data, hok⟩, hkind⟩ := (losesResult_iff _ _).1 hlost
        exact hkept.elim (fun hfailed => hfailed data hok) hkind
      rw [if_neg hno]
      rfl
  case idle =>
    rw [exec_discardExpiry n hlive, discardExpiryOp_idle (s := s.quiet) hidle]
    rfl

/-! ## Ticks (R123, R124) -/

/-- One tick off the timer an entry runs; a timer that has run out, and an entry with none, stay. -/
theorem entry_tick_eq (e : Entry) :
    e.tick = (match e.phase with
      | .deferred (k + 1) => { e with phase := .deferred k }
      | .complete r (some (k + 1)) => { e with phase := .complete r (some k) }
      | _ => e) := by
  unfold Entry.tick
  cases hphase : e.phase with
  | waiting | issued => rfl
  | deferred k =>
    cases k with
    | zero => exact congrArg (fun p => { e with phase := p }) hphase.symm
    | succ k => rfl
  | complete r d =>
    cases d with
    | none => rfl
    | some k =>
      cases k with
      | zero => exact congrArg (fun p => { e with phase := p }) hphase.symm
      | succ k => rfl

theorem item_tick_eq (i : Item) :
    i.tick = (match i.cond with
      | .deferred (k + 1) => { i with cond := .deferred k }
      | _ => i) := by
  unfold Item.tick
  cases hcond : i.cond with
  | queued | ready | inFlight => rfl
  | deferred k =>
    cases k with
    | zero => exact congrArg (fun c => { i with cond := c }) hcond.symm
    | succ k => rfl

/-- Settles O57: a tick maps every entry, every item and every record. -/
theorem tickRunsEveryTimer : Obligations.TickRunsEveryTimer := by
  intro s hlive
  refine ⟨tickOp s.quiet, blockStep_live tickOp hlive, fun n => ?_, ?_, rfl, rfl⟩
  · have hentry : (tickOp s.quiet).dtt.entry n = (s.dtt.entry n).map Entry.tick := get_mapEntries _ _ n
    rw [hentry]
    exact congrArg (Option.map · _) (funext entry_tick_eq)
  · exact congrArg (List.map · _) (funext item_tick_eq)

/-! ## The reset lines (R107, R108) -/

theorem exec_rrstRelease (pins : Slot) (s : State) :
    exec (.rrstRelease pins) s =
      .next (if s.lines.crst || !s.lines.rrst then setRrst false s.quiet else leaveDown pins (setRrst false s.quiet)) :=
  rfl

theorem exec_crstRelease (pins : Slot) (s : State) :
    exec (.crstRelease pins) s = .next (if s.lines.crst then releaseCrst pins s.quiet else s.quiet) := rfl

/-- Settles O59: each release acts on its line, and on the port where R107 and R108 say so. -/
theorem releasesSampleTheSlot : Obligations.ReleasesSampleTheSlot := by
  refine fun s pins => ⟨fun hlive hline => ?_, fun hlive hline => ?_, fun hcrst => ⟨?_, ?_, ?_⟩, fun hlive => ?_⟩
  · have hcrst : s.lines.crst = false := hlive
    rw [exec_rrstRelease, hcrst, hline]
    rfl
  · rw [exec_rrstRelease, hline, Bool.not_false, Bool.or_true, if_pos rfl, setRrst, ← hline]
    rfl
  · rw [exec_rrstRelease, hcrst]
    rfl
  · rw [exec_rrstAssert, hcrst]
    rfl
  · rw [exec_crstRelease, if_pos hcrst]
    rfl
  · have hcrst : s.lines.crst = false := hlive
    rw [exec_crstRelease, hcrst]
    rfl

/-- Settles O60: card reset takes the reset state, and the release of CRST with RRST asserted gives it. -/
theorem cardResetSetsEveryBlock : Obligations.CardResetSetsEveryBlock := by
  refine ⟨fun s => rfl, fun s t pins hline hexec => ?_⟩
  obtain rfl := Host.Outcome.next.inj hexec
  have hstate : cardResetState s =
      { State.reset with lines := { crst := true, rrst := true }, pending := s.pending } := by
    rw [cardResetState, hline]
  rw [hstate]
  rfl

end Sys2Proof.Machine
end

section
/-! The cells of the rack bus: the check code and its residue, the bytes that carry the fields, and their reading. -/

namespace Sys2Proof.Machine

/-! ## The check code (R116) -/

/-- A register whose high byte is 0 shifts out no bit for as many steps as its high byte has. -/
theorem iterate_crcBit_setWidth (b : Byte) (k : Nat) (hk : k ≤ 8) :
    crcBit^[k] (b.setWidth 16) = b.setWidth 16 <<< k := by
  induction k with
  | zero => exact (BitVec.shiftLeft_zero _).symm
  | succ k ih =>
    have htop : (b.setWidth 16 <<< k).msb = false := by
      rw [BitVec.msb_eq_getLsbD_last, BitVec.getLsbD_shiftLeft, BitVec.getLsbD_setWidth,
        BitVec.getLsbD_of_ge b _ (by omega)]
      simp
    rw [Function.iterate_succ_apply', ih (by omega), crcBit, htop, if_neg Bool.false_ne_true, BitVec.shiftLeft_add]

/-- The check register after its own high byte: the low byte moves up. -/
theorem crcByte_high (r : BitVec 16) :
    crcByte r (r.extractLsb' 8 8) = (r.extractLsb' 0 8).setWidth 16 <<< 8 := by
  have hlow : r ^^^ ((r.extractLsb' 8 8).setWidth 16 <<< 8) = (r.extractLsb' 0 8).setWidth 16 := by
    apply BitVec.eq_of_getLsbD_eq
    intro i hi
    simp only [BitVec.getLsbD_xor, BitVec.getLsbD_shiftLeft, BitVec.getLsbD_setWidth, BitVec.getLsbD_extractLsb']
    by_cases h8 : i < 8
    · simp [h8, hi]
    · simp [h8, hi, Nat.add_sub_cancel' (not_lt.1 h8), show i - 8 < 8 by omega, show i - 8 < 16 by omega]
  rw [crcByte, hlow]
  exact iterate_crcBit_setWidth _ 8 le_rfl

/-- The check register after the byte it holds at its top alone: it is 0. -/
theorem crcByte_self (b : Byte) : crcByte (b.setWidth 16 <<< 8) b = 0 := by
  rw [crcByte, BitVec.xor_self]
  rfl

/-- The check code of the spec's example, the nine digits from 1 to 9, register by register. -/
theorem checkCode_of_digits : checkCode [0x31, 0x32, 0x33, 0x34, 0x35, 0x36, 0x37, 0x38, 0x39] = 0x29B1 := by
  have h1 : crcByte 0xFFFF 0x31 = 0xC782 := by decide
  have h2 : crcByte 0xC782 0x32 = 0x3DBA := by decide
  have h3 : crcByte 0x3DBA 0x33 = 0x5BCE := by decide
  have h4 : crcByte 0x5BCE 0x34 = 0x5349 := by decide
  have h5 : crcByte 0x5349 0x35 = 0x4560 := by decide
  have h6 : crcByte 0x4560 0x36 = 0x2EF4 := by decide
  have h7 : crcByte 0x2EF4 0x37 = 0x7718 := by decide
  have h8 : crcByte 0x7718 0x38 = 0xA12B := by decide
  have h9 : crcByte 0xA12B 0x39 = 0x29B1 := by decide
  simp only [checkCode, List.foldl_cons, List.foldl_nil, h1, h2, h3, h4, h5, h6, h7, h8, h9]

/-- Settles O52: the check code's own high byte leaves its low byte at the top, and that byte leaves 0. -/
theorem checkCodeLeavesNoResidue : Obligations.CheckCodeLeavesNoResidue := by
  refine ⟨fun bs => ?_, checkCode_of_digits⟩
  rw [withCheckCode, checkCode, List.foldl_append]
  show crcByte (crcByte (checkCode bs) _) _ = 0
  rw [crcByte_high, crcByte_self]

/-! ## The bytes of a cell (R115) -/

/-- Two numbers side by side. -/
theorem append_eq_ofNat {m n : Nat} (x : BitVec m) (y : BitVec n) :
    x ++ y = BitVec.ofNat (m + n) (x.toNat * 2 ^ n + y.toNat) := by
  rw [← toNat_append_eq, BitVec.ofNat_toNat, BitVec.setWidth_eq]

/-- Byte k of a number, from its lowest. -/
theorem extractByte_eq {n : Nat} (x : BitVec n) (k : Nat) : x.extractLsb' k 8 = BitVec.ofNat 8 (x.toNat / 2 ^ k) := by
  apply BitVec.eq_of_toNat_eq
  rw [BitVec.extractLsb'_toNat, BitVec.toNat_ofNat, Nat.shiftRight_eq_div_pow]

/-- The first byte of a cell: its type, its code and three bits that are 0. -/
theorem typeByte_eq (type : BitVec 2) (code : BitVec 3) :
    type ++ code ++ (0 : BitVec 3) = BitVec.ofNat 8 (64 * type.toNat + 8 * code.toNat) := by
  rw [append_eq_ofNat, toNat_append_eq]
  congr 1
  show (type.toNat * 2 ^ 3 + code.toNat) * 2 ^ 3 + 0 = _
  ring

theorem pairByte_eq (x y : BitVec 4) : x ++ y = BitVec.ofNat 8 (16 * x.toNat + y.toNat) := by
  rw [append_eq_ofNat, Nat.mul_comm]
  rfl

theorem header_eq (type : BitVec 2) (code : BitVec 3) (source dest : Slot) (origin gen : BitVec 4) (count : Nat) :
    header type code source dest origin gen count =
      [BitVec.ofNat 8 (64 * type.toNat + 8 * code.toNat), BitVec.ofNat 8 (16 * source.toNat + dest.toNat),
        BitVec.ofNat 8 (16 * origin.toNat + gen.toNat), BitVec.ofNat 8 count] := by
  rw [header, typeByte_eq, pairByte_eq, pairByte_eq]

theorem bytesOfWord_eq (w : Word) :
    bytesOfWord w = [BitVec.ofNat 8 (w.toNat / 2 ^ 24), BitVec.ofNat 8 (w.toNat / 2 ^ 16),
      BitVec.ofNat 8 (w.toNat / 2 ^ 8), BitVec.ofNat 8 w.toNat] := by
  rw [bytesOfWord, extractByte_eq, extractByte_eq, extractByte_eq, extractByte_eq, pow_zero, Nat.div_one]

theorem withCheckCode_eq (bs : List Byte) :
    withCheckCode bs = bs ++ [BitVec.ofNat 8 ((checkCode bs).toNat / 256), BitVec.ofNat 8 (checkCode bs).toNat] := by
  rw [withCheckCode, extractByte_eq, extractByte_eq, pow_zero, Nat.div_one]
  rfl

/-- The number of an origin in its tag. -/
theorem number_toNat (o : Origin) : o.number.toNat = (match o with
    | .dtt n => n.val
    | .posted => 8) := by
  cases o with
  | dtt n => exact (by decide : ∀ n : Fin 8, (Origin.dtt n).number.toNat = n.val) n
  | posted => rfl

/-- Settles O51: each byte is its fields' number. -/
theorem cellsCarryTheirFieldsInTheirBytes : Obligations.CellsCarryTheirFieldsInTheirBytes := by
  refine ⟨fun own o gen r => ?_, fun own dest origin gen a => ?_⟩
  · have hcode : r.kind.code.toNat = (match r.kind with
        | .read => 0
        | .write => 1
        | .exchange => 2
        | .message => 3) := by
      cases r.kind <;> rfl
    rw [requestFrame, withCheckCode_eq, header_eq, bytesOfWord_eq, hcode, number_toNat]
    rfl
  · have hcode : a.code.toNat = (match a with
        | .accept => 0
        | .busy => 1
        | .reject => 2) := by
      cases a <;> rfl
    rw [responseFrame, withCheckCode_eq, header_eq, hcode]
    rfl

/-! ## Reading a cell (R115, R118) -/

section Framed

variable (body : List Byte)

theorem length_withCheckCode : (withCheckCode body).length = body.length + 2 := by
  rw [withCheckCode, List.length_append]
  rfl

/-- A byte before the check code is the body's. -/
theorem frameByte_withCheckCode {i : Nat} (hi : i < body.length) : frameByte (withCheckCode body) i = body.getD i 0 :=
  List.getD_append _ _ _ _ hi

/-- The bytes before the last two are the body, and the last two are its check code. -/
theorem checkCode_withCheckCode :
    checkCode ((withCheckCode body).take ((withCheckCode body).length - 2)) =
      frameByte (withCheckCode body) ((withCheckCode body).length - 2) ++
        frameByte (withCheckCode body) ((withCheckCode body).length - 1) := by
  have hlast (k : Nat) : frameByte (withCheckCode body) (body.length + k) =
      [(checkCode body).extractLsb' 8 8, (checkCode body).extractLsb' 0 8].getD k 0 := by
    rw [frameByte, withCheckCode, List.getD_append_right _ _ _ _ (Nat.le_add_right _ _), Nat.add_sub_cancel_left]
  rw [length_withCheckCode, Nat.add_sub_cancel, show body.length + 2 - 1 = body.length + 1 from rfl,
    show body.length = body.length + 0 from rfl, hlast 0, hlast 1, withCheckCode, List.take_left']
  · have hwhole := BitVec.extractLsb'_append_extractLsb'_eq_extractLsb' (x := checkCode body) (len₂ := 8)
      (Nat.zero_add 8).symm
    exact BitVec.extractLsb'_eq_self.symm.trans hwhole.symm
  · rfl

/-- A cell with its check code is whole where its length, its type, its count and its header agree (R118). -/
theorem not_damaged_withCheckCode (hmin : 4 ≤ body.length) (hmax : body.length ≤ 36)
    (htype : frameType (withCheckCode body) = 1 ∨ frameType (withCheckCode body) = 2)
    (hcount : frameCount (withCheckCode body) ≤ 32)
    (hlength : body.length = frameHeader (withCheckCode body) + framePayloadLength (withCheckCode body)) :
    damaged (withCheckCode body) = false := by
  rw [Bool.eq_false_iff, ne_eq, damaged_iff, length_withCheckCode]
  rintro (h | h | h | h | h | h | h)
  · omega
  · omega
  · exact h (length_withCheckCode body ▸ checkCode_withCheckCode body)
  · simp [h] at htype
  · simp [h] at htype
  · omega
  · exact h (congrArg (· + 2) hlength)

end Framed

/-! ## The fields of a cell (R115) -/

section Header

variable (type : BitVec 2) (code : BitVec 3) (source dest : Slot) (origin gen : BitVec 4) (count : Nat) (rest : List Byte)

theorem frameType_header :
    frameType (withCheckCode (header type code source dest origin gen count ++ rest)) = type := by
  show (type ++ code ++ (0 : BitVec 3)).extractLsb' 6 2 = type
  rw [BitVec.extractLsb'_append_eq_of_le (by decide)]
  exact BitVec.extractLsb'_append_eq_left

theorem frameCode_header :
    frameCode (withCheckCode (header type code source dest origin gen count ++ rest)) = code := by
  show (type ++ code ++ (0 : BitVec 3)).extractLsb' 3 3 = code
  rw [BitVec.extractLsb'_append_eq_of_le (by decide)]
  exact BitVec.extractLsb'_append_eq_right

theorem frameSource_header :
    frameSource (withCheckCode (header type code source dest origin gen count ++ rest)) = source :=
  BitVec.extractLsb'_append_eq_left

theorem frameDest_header :
    frameDest (withCheckCode (header type code source dest origin gen count ++ rest)) = dest :=
  BitVec.extractLsb'_append_eq_right

theorem frameOrigin_header :
    frameOrigin (withCheckCode (header type code source dest origin gen count ++ rest)) = origin :=
  BitVec.extractLsb'_append_eq_left

theorem frameGen_header :
    frameGen (withCheckCode (header type code source dest origin gen count ++ rest)) = gen :=
  BitVec.extractLsb'_append_eq_right

theorem frameCount_header (hcount : count < 256) :
    frameCount (withCheckCode (header type code source dest origin gen count ++ rest)) = count :=
  (BitVec.toNat_ofNat count 8).trans (Nat.mod_eq_of_lt hcount)

end Header

/-- The payload of a cell is what its header and its payload length cut out. -/
theorem framePayload_of_length {pre payload : List Byte} (hpre : frameHeader (withCheckCode (pre ++ payload)) = pre.length)
    (hlength : framePayloadLength (withCheckCode (pre ++ payload)) = payload.length) :
    framePayload (withCheckCode (pre ++ payload)) = payload := by
  rw [framePayload, hpre, hlength, withCheckCode, List.append_assoc, List.drop_left, List.take_left]

/-! ## Requests -/

/-- The address bytes of a request; a MESSAGE has none (R95). -/
def Request.addressBytes (r : Request) : List Byte :=
  if r.kind = .message then [] else bytesOfWord r.address

/-- A request that the part can send: a READ names its size, every other its payload (R95, R114). -/
structure Request.sendable (r : Request) : Prop where
  read : r.kind = .read → r.payload = [] ∧ r.count ≤ 8
  data : r.kind = .write ∨ r.kind = .exchange → r.count = r.payload.length ∧ r.payload.length ≤ 8
  message : r.kind = .message → r.count = r.payload.length ∧ r.payload.length ≤ 32

section Request

variable (own : Slot) (o : Origin) (gen : BitVec 4) (r : Request)

theorem requestFrame_eq :
    requestFrame own o gen r =
      withCheckCode (header 1 r.kind.code own r.dest o.number gen r.count ++ (r.addressBytes ++ r.payload)) := by
  rw [requestFrame, List.append_assoc]
  rfl

/-- The bytes of a sendable request's count, header, address and payload, by its kind. -/
theorem Request.sendable.cases {r : Request} (hr : r.sendable) :
    r.count ≤ 32 ∧ r.addressBytes.length + r.payload.length ≤ 32 ∧
      (r.addressBytes.length = if r.kind.code.toNat ≤ 2 then 4 else 0) ∧
      r.payload.length = if r.kind.code = CellKind.read.code then 0 else r.count := by
  cases hk : r.kind with
  | read =>
    obtain ⟨hpayload, hcount⟩ := hr.read hk
    simp only [Request.addressBytes, hk, hpayload, CellKind.code]
    exact ⟨by omega, show 4 + 0 ≤ 32 by decide, rfl, rfl⟩
  | write =>
    obtain ⟨hcount, hlength⟩ := hr.data (.inl hk)
    simp only [Request.addressBytes, hk, CellKind.code, hcount]
    exact ⟨by omega, show 4 + _ ≤ _ by omega, rfl, rfl⟩
  | exchange =>
    obtain ⟨hcount, hlength⟩ := hr.data (.inr hk)
    simp only [Request.addressBytes, hk, CellKind.code, hcount]
    exact ⟨by omega, show 4 + _ ≤ _ by omega, rfl, rfl⟩
  | message =>
    obtain ⟨hcount, hlength⟩ := hr.message hk
    simp only [Request.addressBytes, hk, CellKind.code, hcount]
    exact ⟨by omega, show 0 + _ ≤ _ by omega, rfl, rfl⟩

variable (hr : r.sendable)
include hr

theorem frameHeader_requestFrame : frameHeader (requestFrame own o gen r) = 4 + r.addressBytes.length := by
  obtain ⟨-, -, haddress, -⟩ := hr.cases
  rw [requestFrame_eq, frameHeader, frameType_header, frameCode_header, haddress]
  simp only [true_and]
  split <;> rfl

theorem framePayloadLength_requestFrame :
    framePayloadLength (requestFrame own o gen r) = r.payload.length := by
  obtain ⟨hcount, -, -, hpayload⟩ := hr.cases
  rw [requestFrame_eq, framePayloadLength, frameType_header, frameCode_header, frameCount_header _ _ _ _ _ _ _ _ (by omega),
    hpayload]
  simp only [true_and]

theorem framePayload_requestFrame : framePayload (requestFrame own o gen r) = r.payload := by
  have hheader := frameHeader_requestFrame own o gen r hr
  have hlength := framePayloadLength_requestFrame own o gen r hr
  rw [requestFrame_eq, ← List.append_assoc] at hheader hlength ⊢
  exact framePayload_of_length (hheader.trans (Nat.add_comm _ _ ▸ by simp [header])) hlength

theorem not_damaged_requestFrame : damaged (requestFrame own o gen r) = false := by
  obtain ⟨hcount, hlength, -, -⟩ := hr.cases
  have hheader := frameHeader_requestFrame own o gen r hr
  have hpayload := framePayloadLength_requestFrame own o gen r hr
  rw [requestFrame_eq] at hheader hpayload ⊢
  have hbody : (header 1 r.kind.code own r.dest o.number gen r.count ++ (r.addressBytes ++ r.payload)).length =
      4 + (r.addressBytes.length + r.payload.length) := by
    rw [List.length_append, List.length_append]
    rfl
  refine not_damaged_withCheckCode _ (by omega) (by omega) (.inl (frameType_header ..)) ?_ (by omega)
  rwa [frameCount_header _ _ _ _ _ _ _ _ (by omega)]

end Request

/-- The address of a request that has one. -/
theorem frameAddress_requestFrame (own : Slot) (o : Origin) (gen : BitVec 4) {r : Request} (hkind : r.kind ≠ .message) :
    frameAddress (requestFrame own o gen r) = r.address := by
  rw [requestFrame_eq, Request.addressBytes, if_neg hkind]
  exact wordOfBytes_bytesOfWord r.address

/-! ## Responses -/

section Response

variable (own dest : Slot) (origin gen : BitVec 4) (a : TargetAnswer)

theorem responseFrame_eq : responseFrame own dest origin gen a = withCheckCode (header 2 a.code own dest origin gen 0 ++ []) := by
  rw [responseFrame, List.append_nil]

theorem frameHeader_responseFrame : frameHeader (responseFrame own dest origin gen a) = 4 := by
  rw [responseFrame_eq, frameHeader, frameType_header, if_neg (by simp)]

theorem framePayloadLength_responseFrame : framePayloadLength (responseFrame own dest origin gen a) = 0 := by
  rw [responseFrame_eq, framePayloadLength, frameType_header, frameCount_header _ _ _ _ _ _ _ _ (by decide), ite_self]

theorem framePayload_responseFrame : framePayload (responseFrame own dest origin gen a) = [] := by
  rw [framePayload, framePayloadLength_responseFrame, List.take_zero]

theorem not_damaged_responseFrame : damaged (responseFrame own dest origin gen a) = false := by
  have hheader := frameHeader_responseFrame own dest origin gen a
  have hpayload := framePayloadLength_responseFrame own dest origin gen a
  rw [responseFrame_eq] at hheader hpayload ⊢
  refine not_damaged_withCheckCode _ (by decide : 4 ≤ 4) (by decide : 4 ≤ 36) (.inr (frameType_header ..)) ?_
    (by rw [hheader, hpayload]; rfl)
  rw [frameCount_header _ _ _ _ _ _ _ _ (by decide)]
  decide

end Response

/-- Settles O53: the reception check and each reading, for requests and for responses. -/
theorem sentCellsReadBackFieldByField : Obligations.SentCellsReadBackFieldByField := by
  refine ⟨fun own o gen r hread hdata hmessage => ?_, fun own dest origin gen a => ?_⟩
  · have hr : r.sendable := ⟨hread, hdata, hmessage⟩
    obtain ⟨hcount, -, -, -⟩ := hr.cases
    refine ⟨not_damaged_requestFrame own o gen r hr, ?_, ?_, ?_, ?_, ?_, ?_, ?_,
      framePayload_requestFrame own o gen r hr, frameAddress_requestFrame own o gen⟩ <;> rw [requestFrame_eq]
    · exact frameType_header ..
    · exact frameCode_header ..
    · exact frameSource_header ..
    · exact frameDest_header ..
    · exact frameOrigin_header ..
    · exact frameGen_header ..
    · exact frameCount_header _ _ _ _ _ _ _ _ (by omega)
  · refine ⟨not_damaged_responseFrame own dest origin gen a, ?_, ?_, ?_, ?_, ?_, ?_, ?_,
      framePayload_responseFrame own dest origin gen a⟩ <;> rw [responseFrame_eq]
    · exact frameType_header ..
    · exact frameCode_header ..
    · exact frameSource_header ..
    · exact frameDest_header ..
    · exact frameOrigin_header ..
    · exact frameGen_header ..
    · exact frameCount_header _ _ _ _ _ _ _ _ (by decide)

end Sys2Proof.Machine
end

section
/-! A message on its way from one part to another: the sender's issue, the receiver's reception, and the answer that retires
the sender's head. -/

namespace Sys2Proof.Machine

/-! ## The request cell of a message (R95, R115) -/

theorem itemRequest_of_message {h : Item} (hkind : h.kind = .message) :
    itemRequest h =
      { kind := .message, dest := h.slot, address := 0, count := h.data.length, payload := h.data } := by
  rw [itemRequest, hkind]

theorem length_le_of_goodLength {n : Nat} (h : goodLength n = true) : n ≤ 32 := by
  simp only [goodLength, Bool.and_eq_true, decide_eq_true_eq] at h
  exact h.2

/-- The request of a message of good length can be sent. -/
theorem sendable_itemRequest {h : Item} (hkind : h.kind = .message) (hgood : goodLength h.data.length = true) :
    (itemRequest h).sendable := by
  rw [itemRequest_of_message hkind]
  exact ⟨fun hread => CellKind.noConfusion hread, fun hdata => hdata.elim CellKind.noConfusion CellKind.noConfusion,
    fun _ => ⟨rfl, length_le_of_goodLength hgood⟩⟩

/-! ## The tag of the last record (R98) -/

/-- A tag finds the last record where no other has its origin. -/
theorem matching_append {a : Arbiter} {before : List InFlight} {r : InFlight}
    (hflight : a.inFlight = before ++ [r]) (hother : ∀ q ∈ before, q.origin ≠ r.origin) :
    a.matching r.origin.number r.gen = some r := by
  have hnone : (before.find? fun q => q.origin.number == r.origin.number && q.gen == r.gen) = none := by
    refine List.find?_eq_none.2 fun q hq hfound => hother q hq (origin_number_injective ?_)
    simp only [Bool.and_eq_true, beq_iff_eq] at hfound
    exact hfound.1
  rw [Arbiter.matching, hflight, List.find?_append, hnone]
  simp

/-- The records but the last one, which is the only one of its origin. -/
theorem filter_append {before : List InFlight} {r : InFlight} (hother : ∀ q ∈ before, q.origin ≠ r.origin) :
    ((before ++ [r]).filter fun q => q.origin ≠ r.origin) = before := by
  rw [List.filter_append, List.filter_eq_self.2 fun q hq => by simpa using hother q hq]
  simp

/-! ## The sender (R94) -/

/-- The generation that the head is issued with. -/
def sentGen (s : State) : BitVec 4 := s.arbiter.generations.get Origin.posted.index + 1

/-- The cell that carries the head. -/
def sentCell (s : State) (h : Item) : List Byte :=
  requestFrame s.rack.ownSlot .posted (sentGen s) (itemRequest h)

/-- The record of the head in flight. -/
def headRecord (s : State) (h : Item) : InFlight := issueRecord .posted (sentGen s) (itemRequest h) s.arbiter

/-- The sender once its head is issued: the head IN-FLIGHT under its record, its cell on the rack bus. -/
def sender (s : State) (h : Item) (tl : List Item) (rest : List Origin) : State :=
  { frontTaken .posted rest (itemRequest h) s.quiet with
    pwq := { s.pwq with items := { h with attempts := min (h.attempts + 1) 15, cond := .inFlight } :: tl }
    sent := some (sentCell s h) }

/-- The sender once its head's record is gone again. -/
def answered (s : State) (h : Item) (tl : List Item) (rest : List Origin) : State :=
  { (sender s h tl rest).quiet with arbiter := { (sender s h tl rest).arbiter with inFlight := s.arbiter.inFlight } }

section Sender

variable {s : State} {h : Item} {tl : List Item} {rest : List Origin}

theorem exec_issue_sender (hlive : s.live) (honline : s.rack.state = .online)
    (hslot : s.arbiter.inFlight.length < s.arbiter.issueCap.toNat) (hfront : s.arbiter.ready = .posted :: rest)
    (hitems : s.pwq.items = h :: tl) : exec .issue s = .next (sender s h tl rest) := by
  have hrequest : originRequest .posted s.quiet = some (itemRequest h) := originRequest_posted hitems
  rw [exec_issue_of_front hlive honline hslot hfront hrequest, issueOrigin_eq,
    tellIssued_posted (s := frontTaken .posted rest (itemRequest h) s.quiet) hitems]
  rfl

/-- ACCEPT for the sender's head takes its record away and retires it. -/
theorem response_accept_sender (hkind : h.kind = .message) (hother : ∀ r ∈ s.arbiter.inFlight, r.origin ≠ .posted) :
    response Origin.posted.number (sentGen s) 0 [] (sender s h tl rest).quiet = retire (answered s h tl rest) := by
  have hmatch : (sender s h tl rest).quiet.arbiter.matching Origin.posted.number (sentGen s) = some (headRecord s h) :=
    matching_append (r := headRecord s h) rfl hother
  have hclass : classify 0 [] (headRecord s h) = .accept [] := by
    rw [classify_zero_of_not_returns _ _ (by simp [headRecord, issueRecord, itemRequest_of_message hkind]), if_pos rfl]
  have hremoved : removeRecord .posted (sender s h tl rest).quiet = answered s h tl rest :=
    congrArg (fun l => { (sender s h tl rest).quiet with arbiter := { (sender s h tl rest).arbiter with inFlight := l } })
      (filter_append (r := headRecord s h) hother)
  rw [response_of_matched 0 [] hmatch, hclass]
  show handOutcome .posted (.accept []) (removeRecord .posted (sender s h tl rest).quiet) = _
  rw [hremoved]
  exact handOutcome_posted_accept (s := answered s h tl rest) rfl rfl []

/-- The sender keeps an answer to its slot, and takes it for its head. -/
theorem exec_cellReception_accept {source : Slot} (hlive : s.live) (honline : s.rack.state = .online)
    (hkind : h.kind = .message) (hother : ∀ r ∈ s.arbiter.inFlight, r.origin ≠ .posted) :
    exec (.cellReception (responseFrame source s.rack.ownSlot Origin.posted.number (sentGen s) .accept))
        (sender s h tl rest) =
      .next (retire (answered s h tl rest)) := by
  obtain ⟨-, hreads⟩ := sentCellsReadBackFieldByField
  obtain ⟨hwhole, htype, hcode, -, hdest, horigin, hgen, -, hpayload⟩ :=
    hreads source s.rack.ownSlot Origin.posted.number (sentGen s) .accept
  have hup : (sender s h tl rest).rack.state ≠ .down := by
    show s.rack.state ≠ .down
    rw [honline]
    decide
  rw [exec_cellReception_of_kept_response (s := sender s h tl rest) hlive ⟨hup, hwhole, hdest⟩ htype, horigin, hgen,
    hcode, hpayload]
  exact congrArg _ (response_accept_sender hkind hother)

/-- The retirement of the sender's head, field by field. -/
theorem retire_answered :
    (retire (answered s h tl rest)).sent = none ∧ (retire (answered s h tl rest)).pwq.items = promoted tl ∧
      (retire (answered s h tl rest)).arbiter.inFlight = s.arbiter.inFlight ∧
      (retire (answered s h tl rest)).events.counters = s.events.counters := by
  have hitems : (answered s h tl rest).pwq.items =
    { h with attempts := min (h.attempts + 1) 15, cond := .inFlight } :: tl := rfl
  rw [retire_frame hitems, retired_eq hitems]
  exact ⟨rfl, rfl, rfl, rfl⟩

end Sender

/-! ## The receiver (R149, R150) -/

/-- What the receiver reads in the cell of a message. -/
theorem sentCell_reads (s : State) {h : Item} (hkind : h.kind = .message) (hgood : goodLength h.data.length = true) :
    damaged (sentCell s h) = false ∧ frameType (sentCell s h) = 1 ∧ frameCode (sentCell s h) = 3 ∧
      frameSource (sentCell s h) = s.rack.ownSlot ∧ frameDest (sentCell s h) = h.slot ∧
      frameOrigin (sentCell s h) = Origin.posted.number ∧ frameGen (sentCell s h) = sentGen s ∧
      framePayload (sentCell s h) = h.data := by
  obtain ⟨hreads, -⟩ := sentCellsReadBackFieldByField
  obtain ⟨hread, hdata, hmessage⟩ := sendable_itemRequest hkind hgood
  obtain ⟨hwhole, htype, hcode, hsource, hdest, horigin, hgen, -, hpayload, -⟩ :=
    hreads s.rack.ownSlot .posted (sentGen s) (itemRequest h) hread hdata hmessage
  have hrequest := itemRequest_of_message hkind
  exact ⟨hwhole, htype, hcode.trans (by rw [hrequest]; rfl), hsource, hdest.trans (by rw [hrequest]), horigin, hgen,
    hpayload.trans (by rw [hrequest])⟩

/-- The receiver stores a message for its slot with the sender's slot, and answers ACCEPT. -/
theorem exec_cellReception_sentCell {s t : State} {h : Item} (hkind : h.kind = .message)
    (hgood : goodLength h.data.length = true) (hlive : t.live) (hup : t.rack.state ≠ .down)
    (hown : t.rack.ownSlot = h.slot) (hon : t.imq.enable = true)
    (hquota : t.imq.count s.rack.ownSlot < t.imq.quota.toNat) (hroom : t.imq.messages.length < 32) :
    exec (.cellReception (sentCell s h)) t =
      .next { t.quiet with
        imq := storeMessage s.rack.ownSlot h.data t.imq
        sent := some (responseFrame t.rack.ownSlot s.rack.ownSlot Origin.posted.number (sentGen s) .accept) } := by
  obtain ⟨hwhole, htype, hcode, hsource, hdest, horigin, hgen, hpayload⟩ := sentCell_reads s hkind hgood
  have hanswer : arrivalAnswer t.imq (frameSource (sentCell s h)) (framePayload (sentCell s h)).length = .accept := by
    rw [hsource, hpayload]
    exact arrivalAnswer_accept hon hgood hquota hroom
  rw [exec_cellReception_of_accepted_message hlive ⟨hup, hwhole, hdest.trans hown.symm⟩ htype hcode hanswer,
    answerRequest, hsource, horigin, hgen, hpayload]
  rfl

/-- Settles O54: the sender's issue, the receiver's reception of the cell, and the sender's reception of the answer. -/
theorem messageCrossesTwoParts : Obligations.MessageCrossesTwoParts := by
  intro s t h tl rest hlive honline hslot hfront hitems hother hkind hgood hliveT hup hown hon hquota hroom
  obtain ⟨hsent, hqueue, hflight, hcounters⟩ := retire_answered (s := s) (h := h) (tl := tl) (rest := rest)
  refine ⟨sender s h tl rest, _, retire (answered s h tl rest), sentCell s h,
    responseFrame t.rack.ownSlot s.rack.ownSlot Origin.posted.number (sentGen s) .accept,
    exec_issue_sender hlive honline hslot hfront hitems, rfl,
    exec_cellReception_sentCell hkind hgood hliveT hup hown hon hquota hroom, rfl, rfl,
    exec_cellReception_accept hlive honline hkind hother, hsent, hqueue, hflight, hcounters⟩

end Sys2Proof.Machine
end
